-- ==== Sys2Proof/Word.lean ====
section
/-! DEFINITION. The word types of the block (00_scope.md R8): every one is a plain bit vector. -/

namespace Sys2Proof

/-- One byte on the two-wire bus, and the register pointer byte (R60, R65). -/
abbrev Byte := BitVec 8

/-- A 16-bit register or operand, `u16` or the pattern of an `s16` (R8). -/
abbrev U16 := BitVec 16

/-- The time base of `NOW` and `LAST_SAMPLE_TIME`, `TS_WIDTH = 32` bits (R7, R24). -/
abbrev Time := BitVec 32

/-- A command word `{OP, A, B}` (R90). -/
abbrev CmdWord := BitVec 40

end Sys2Proof
end

