-- ==== Sys2Proof/Config.lean ====
section
/-! DEFINITION. The parameters of the block (00_scope.md R7) and the free values.

A parameter the spec fixes (status "source" or "decision") is an abbreviation of its value.
A parameter the spec leaves OPEN is an opaque constant: no proof can see its value (log 2).
The two oracle draws of 20_memory.md R66 are opaque functions of a counter (log 1). -/

namespace Sys2Proof.Config

/-! ## Parameters with a value (R7) -/

/-- `CAL_K` (R7, R160; C3 keeps the document's constant, log 20). -/
abbrev calK : Nat := 40960000

/-- `CUR_DIV`: `currentLSB_mA = MAX_CURRENT_MA / 32768` (R7, R23). -/
abbrev curDiv : Nat := 32768

/-- `PWR_MUL`: `powerLSB_mW = 20 * currentLSB_mA` (R7, R23). -/
abbrev pwrMul : Nat := 20

/-- `BUS_SHIFT`: the status bits of the bus voltage register that are discarded (R7, R128). -/
abbrev busShift : Nat := 3

/-- `BUS_LSB_MV`: millivolts per count of the bus voltage (R7, R128). -/
abbrev busLsbMv : Nat := 4

/-- The denominator of `SHUNT_LSB = 1/100` mV per count (R7, R130). -/
abbrev shuntDen : Nat := 100

/-- `MAX_HOLD` in duration units (R7, R206). -/
abbrev maxHold : Nat := 100

/-- `MODE_THRESH_MV`: below it MEASURE enters resistance mode (R7, R236). -/
abbrev modeThreshMv : Nat := 5

/-- `SHORT_THRESH_MV`, a strict bound (R7, R232; C4). -/
abbrev shortThreshMv : Nat := 2

/-- `OPEN_THRESH_MV`, an inclusive bound (R7, R232). -/
abbrev openThreshMv : Nat := 5000

/-- `VREF_MV`: 5.016 V (R7, R231). -/
abbrev vrefMv : Nat := 5016

/-- `RREF_OHM` (R7, R231). -/
abbrev rrefOhm : Nat := 1000

/-- `OPEN_SENTINEL` (R7, R232; the spec's decision D25, log 10). -/
abbrev openSentinel : Int := -1

/-- `MAX_RETRY`: restores per reading (R7, R170; C7, D17). -/
abbrev maxRetry : Nat := 1

/-- `ORCH_WHILE_ENABLED` (R7, R262; the spec's decision D24, log 11). -/
abbrev orchWhileEnabled : Bool := false

/-- `T_PTR_READ`, a lower bound in milliseconds (R7, R346). -/
abbrev tPtrRead : Nat := 5

/-! ## OPEN parameters (R7; D8 to D13; log 2) -/

/-- `BUS_ADDR`, the 7-bit device address (R7, D9). -/
opaque busAddr : BitVec 7

/-- `PTR_CONFIG` (R7, R61, D8). -/
opaque ptrConfig : Byte

/-- `PTR_SHUNT` (R7, R61, D8). -/
opaque ptrShunt : Byte

/-- `PTR_BUS` (R7, R61, D8). -/
opaque ptrBus : Byte

/-- `PTR_POWER` (R7, R61, D8). -/
opaque ptrPower : Byte

/-- `PTR_CURRENT` (R7, R61, D8). -/
opaque ptrCurrent : Byte

/-- `PTR_CAL` (R7, R61, D8). -/
opaque ptrCal : Byte

/-- `CONFIG_INIT`, the shadow configuration word after power-on reset (R7, R22, D10). -/
opaque configInit : U16

/-- `MODE_MASK`, the configuration's mode bits (R7, R140, D11). -/
opaque modeMask : U16

/-- `RESET_PTR`, the pointer of the chip reset command (R7, R145, D12). -/
opaque resetPtr : Byte

/-- `RESET_VALUE`, the value of the chip reset command (R7, R145, D12). -/
opaque resetValue : U16

/-- `T_CONV`, the recovery wait, a lower bound in milliseconds (R7, R170, D13). -/
opaque tConv : Nat

/-- `T_RESET_SETTLE`, the wait after the chip reset, a lower bound in milliseconds (R7, R145, D12). -/
opaque tResetSettle : Nat

/-! ## The oracle's free draws (R66, D18, D32; log 1) -/

/-- The two bytes `b1`, `b2` the chip answers to the n-th read draw: free (R63, R66). -/
opaque freeRead : Nat → Byte × Byte

/-- Whether the n-th drawn write is acknowledged: free (R62, R66). -/
opaque freeAck : Nat → Bool

end Sys2Proof.Config
end

