-- ==== Sys2Proof/Syntax.lean ====
section
/-! DEFINITION. The thirteen commands of the block (30_encoding.md R92), one constructor per row of the opcode table. -/

namespace Sys2Proof

/-- A command with the operands it reads (R91, R92).
The pseudo-commands of R99 are spellings of these and have no constructor. -/
inductive Instr where
  /-- 0x01 INIT imax (mA), rshunt (milliohm): R161. -/
  | init (imax rshunt : U16)
  /-- 0x02 UPDCFG value, mask: R125. -/
  | updcfg (value mask : U16)
  /-- 0x03 RDBUSV: R128. -/
  | rdbusv
  /-- 0x04 RDSHUNT: R130. -/
  | rdshunt
  /-- 0x05 RDCUR: R180. -/
  | rdcur
  /-- 0x06 RDPWR: R181. -/
  | rdpwr
  /-- 0x07 PWRSAVE enable: R140. -/
  | pwrsave (enable : Bool)
  /-- 0x08 RESET, the chip reset command: R145. -/
  | reset
  /-- 0x09 BTNSAMPLE: R200. -/
  | btnsample
  /-- 0x0A RESCALC mv: R230. -/
  | rescalc (mv : U16)
  /-- 0x0B MEASURE: R236. -/
  | measure
  /-- 0x0C CYCLE: R260. -/
  | cycle
  /-- 0x0D RDREG index: R290. -/
  | rdreg (index : U16)
  deriving DecidableEq, Repr

end Sys2Proof
end

