-- ==== Sys2Proof/WellFormed.lean ====
section
/-! DEFINITION. Which commands are legal by value (30_encoding.md R94).

The fields' widths and the reserved fields are in the types of `Instr` and in the decoder (R93).
The one legality rule that is about an operand's value is R94: an RDREG index lies in 0x00 to 0x07.
A command that is not well formed still decodes and still has its meaning: it ends with ILLEGAL_CMD (log 15). -/

namespace Sys2Proof

/-- The command is legal by value (R94). -/
def Instr.wellFormed : Instr → Bool
  | .rdreg index => decide (index.toNat ≤ 0x07)
  | .init _ _ => true
  | .updcfg _ _ => true
  | .rdbusv => true
  | .rdshunt => true
  | .rdcur => true
  | .rdpwr => true
  | .pwrsave _ => true
  | .reset => true
  | .btnsample => true
  | .rescalc _ => true
  | .measure => true
  | .cycle => true

end Sys2Proof
end

