-- ==== Sys2Proof/Decode.lean ====
section
/-! DEFINITION. The command word: its fields, the opcode map, the decoder and the encoder (30_encoding.md R90 to R95).

A command word is a parallel 40-bit port with no byte order (D37), so the decoder reads one `BitVec 40`. -/

namespace Sys2Proof

/-! ## Fields (R90) -/

/-- `OP`, bits 39:32. -/
def opField (w : CmdWord) : Byte := w.extractLsb' 32 8

/-- `A`, bits 31:16. -/
def aField (w : CmdWord) : U16 := w.extractLsb' 16 16

/-- `B`, bits 15:0. -/
def bField (w : CmdWord) : U16 := w.extractLsb' 0 16

/-- The word `{OP, A, B}` (R8, R98). -/
def assembleWord (op : Byte) (a b : U16) : CmdWord := op ++ a ++ b

/-! ## The opcode map (R92) -/

/-- The `OP` of a command (R92). -/
def Instr.opcode : Instr → Byte
  | .init _ _ => 0x01#8
  | .updcfg _ _ => 0x02#8
  | .rdbusv => 0x03#8
  | .rdshunt => 0x04#8
  | .rdcur => 0x05#8
  | .rdpwr => 0x06#8
  | .pwrsave _ => 0x07#8
  | .reset => 0x08#8
  | .btnsample => 0x09#8
  | .rescalc _ => 0x0A#8
  | .measure => 0x0B#8
  | .cycle => 0x0C#8
  | .rdreg _ => 0x0D#8

/-- The column "needs INIT_DONE" (R92). -/
def Instr.needsInit : Instr → Bool
  | .init _ _ => false
  | .updcfg _ _ => true
  | .rdbusv => true
  | .rdshunt => true
  | .rdcur => true
  | .rdpwr => true
  | .pwrsave _ => true
  | .reset => true
  | .btnsample => false
  | .rescalc _ => false
  | .measure => true
  | .cycle => true
  | .rdreg _ => false

/-- The opcode of RDREG, the one command that runs while `FATAL == 1` (R302). -/
def rdregOpcode : Byte := 0x0D#8

/-! ## The decoder (R92, R93, R95) -/

/-- Why a word is illegal (R93). -/
inductive Reject where
  /-- `OP` is 0x00 or lies in 0x0E to 0xFF. -/
  | opcode
  /-- A field the map marks "0" is not zero. -/
  | reservedField
  /-- PWRSAVE with `A[15:1]` not zero. -/
  | enableField
  deriving DecidableEq, Repr

/-- A command whose `A` and `B` are both reserved (R92, R93). -/
def decodePlain (a b : U16) (i : Instr) : Except Reject Instr :=
  if a = 0#16 ∧ b = 0#16 then .ok i else .error .reservedField

/-- A command that reads `A` and whose `B` is reserved (R92, R93). -/
def decodeA (b : U16) (i : Instr) : Except Reject Instr :=
  if b = 0#16 then .ok i else .error .reservedField

/-- PWRSAVE reads `A[0]`, and `A[15:1]` and `B` are reserved (R91, R93). -/
def decodePwrsave (a b : U16) : Except Reject Instr :=
  if b ≠ 0#16 then .error .reservedField
  else if a.extractLsb' 1 15 ≠ 0#15 then .error .enableField
  else .ok (.pwrsave (a.getLsbD 0))

/-- What the three fields of a word stand for (R92, R93). -/
def decodeFields (op : Nat) (a b : U16) : Except Reject Instr :=
  match op with
  | 0x01 => .ok (.init a b)
  | 0x02 => .ok (.updcfg a b)
  | 0x03 => decodePlain a b .rdbusv
  | 0x04 => decodePlain a b .rdshunt
  | 0x05 => decodePlain a b .rdcur
  | 0x06 => decodePlain a b .rdpwr
  | 0x07 => decodePwrsave a b
  | 0x08 => decodePlain a b .reset
  | 0x09 => decodePlain a b .btnsample
  | 0x0A => decodeA b (.rescalc a)
  | 0x0B => decodePlain a b .measure
  | 0x0C => decodePlain a b .cycle
  | 0x0D => decodeA b (.rdreg a)
  | _ => .error .opcode

/-- The decoder: total on every 40-bit word, rejecting by name (R92, R93, R95). -/
def decode (w : CmdWord) : Except Reject Instr := decodeFields (opField w).toNat (aField w) (bField w)

/-! ## The encoder (R90 to R92) -/

/-- The `A` field of a command; a reserved field is zero (R91, R92). -/
def Instr.operandA : Instr → U16
  | .init imax _ => imax
  | .updcfg value _ => value
  | .rdbusv => 0#16
  | .rdshunt => 0#16
  | .rdcur => 0#16
  | .rdpwr => 0#16
  | .pwrsave enable => if enable then 1#16 else 0#16
  | .reset => 0#16
  | .btnsample => 0#16
  | .rescalc mv => mv
  | .measure => 0#16
  | .cycle => 0#16
  | .rdreg index => index

/-- The `B` field of a command; a reserved field is zero (R91, R92). -/
def Instr.operandB : Instr → U16
  | .init _ rshunt => rshunt
  | .updcfg _ mask => mask
  | .rdbusv => 0#16
  | .rdshunt => 0#16
  | .rdcur => 0#16
  | .rdpwr => 0#16
  | .pwrsave _ => 0#16
  | .reset => 0#16
  | .btnsample => 0#16
  | .rescalc _ => 0#16
  | .measure => 0#16
  | .cycle => 0#16
  | .rdreg _ => 0#16

/-- The command word of a command, `{OP, A, B}` (R90, R98). -/
def encode (i : Instr) : CmdWord := assembleWord i.opcode i.operandA i.operandB

/-! ## The match and mask form of the map (R92) -/

/-- A row of the opcode map in its match and mask form. -/
structure OpcodeRow where
  mnemonic : String
  mask : CmdWord
  pattern : CmdWord
  deriving DecidableEq, Repr

/-- The word is one the row matches. -/
def OpcodeRow.matchesWord (r : OpcodeRow) (w : CmdWord) : Bool := w &&& r.mask == r.pattern

/-- The thirteen rows with the masks R92 lists. -/
def opcodeTable : List OpcodeRow :=
  [ ⟨"INIT", 0xFF00000000, 0x0100000000⟩,
    ⟨"UPDCFG", 0xFF00000000, 0x0200000000⟩,
    ⟨"RDBUSV", 0xFFFFFFFFFF, 0x0300000000⟩,
    ⟨"RDSHUNT", 0xFFFFFFFFFF, 0x0400000000⟩,
    ⟨"RDCUR", 0xFFFFFFFFFF, 0x0500000000⟩,
    ⟨"RDPWR", 0xFFFFFFFFFF, 0x0600000000⟩,
    ⟨"PWRSAVE", 0xFFFFFEFFFF, 0x0700000000⟩,
    ⟨"RESET", 0xFFFFFFFFFF, 0x0800000000⟩,
    ⟨"BTNSAMPLE", 0xFFFFFFFFFF, 0x0900000000⟩,
    ⟨"RESCALC", 0xFF0000FFFF, 0x0A00000000⟩,
    ⟨"MEASURE", 0xFFFFFFFFFF, 0x0B00000000⟩,
    ⟨"CYCLE", 0xFFFFFFFFFF, 0x0C00000000⟩,
    ⟨"RDREG", 0xFF0000FFFF, 0x0D00000000⟩ ]

/-- The mnemonic of a command (R92, R98). -/
def Instr.mnemonic : Instr → String
  | .init _ _ => "INIT"
  | .updcfg _ _ => "UPDCFG"
  | .rdbusv => "RDBUSV"
  | .rdshunt => "RDSHUNT"
  | .rdcur => "RDCUR"
  | .rdpwr => "RDPWR"
  | .pwrsave _ => "PWRSAVE"
  | .reset => "RESET"
  | .btnsample => "BTNSAMPLE"
  | .rescalc _ => "RESCALC"
  | .measure => "MEASURE"
  | .cycle => "CYCLE"
  | .rdreg _ => "RDREG"

/-! ## The opcode table's numbering (log 16) -/

/-- The command word that an opcode-table word of `nbits` bits stands for: bit 0 is the least significant bit, and the
bits at and above `nbits` are zero (log 16). -/
def tableWord (nbits w : Nat) : CmdWord := BitVec.ofNat 40 (w % 2 ^ nbits)

/-- The command the decoder reads from an opcode-table word; a number with a bit above bit 39 is no command word. -/
def decodeTableWord (nbits w : Nat) : Option Instr :=
  if w % 2 ^ nbits < 2 ^ 40 then (decode (tableWord nbits w)).toOption else none

end Sys2Proof
end

