-- ==== Sys2Proof/Machine/State.lean ====
section
/-! DEFINITION. The state of the block (10_state.md), the events it records (00_scope.md R9), and its value after block power-on reset (R36). -/

namespace Sys2Proof.Machine

/-! ## The fixed sets of names -/

/-- The status code a command ends with (60_exceptions.md R300). -/
inductive StatusCode where
  | ok
  | illegalCmd
  | notInit
  | calRange
  | fatal
  | busFailInit
  deriving DecidableEq, Repr

/-- The kind of the value in the result registers, `RES_KIND` (10_state.md R26). -/
inductive ResultKind where
  | none
  | busMv
  | shuntMv
  | currentMa
  | powerMw
  | resistanceOhm
  | openCircuit
  | regval
  deriving DecidableEq, Repr

/-- The acknowledge of a write transaction (20_memory.md R62). -/
inductive Ack where
  | ok
  | fail
  deriving DecidableEq, Repr

/-- The three waits of the block (20_memory.md R70). -/
inductive Wait where
  /-- `T_PTR_READ`. -/
  | ptrRead
  /-- `T_CONV`. -/
  | conv
  /-- `T_RESET_SETTLE`. -/
  | resetSettle
  deriving DecidableEq, Repr

/-- The two output pins (10_state.md R29). -/
inductive Pin where
  | probe
  | outEn
  deriving DecidableEq, Repr

/-- The kind of a report event (10_state.md R27). -/
inductive ReportKind where
  | voltage
  | resistance
  | current
  deriving DecidableEq, Repr

/-- The abstract indicator colours (10_state.md R28). -/
inductive Color where
  | inactive
  | active
  deriving DecidableEq, Repr

/-- The events a command records, in the spec's own names (00_scope.md R9; 20_memory.md R62, R63; 10_state.md R27, R28). -/
inductive Event where
  /-- `BUS_WR(ptr, v, ack)`. -/
  | busWr (ptr : Byte) (v : U16) (ack : Ack)
  /-- `BUS_SEL(ptr)`. -/
  | busSel (ptr : Byte)
  /-- `BUS_RD(ptr, v)`. -/
  | busRd (ptr : Byte) (v : U16)
  /-- `DELAY(t)`, by the wait's name (log 14). -/
  | delay (t : Wait)
  /-- `PIN(name, level)`. -/
  | pin (p : Pin) (level : Bool)
  /-- `REPORT(kind, n, d, resetAvg)`, with `n` an s64 and `d` a u32. -/
  | report (kind : ReportKind) (n : BitVec 64) (d : BitVec 32) (resetAvg : Bool)
  /-- `INDICATOR(color)`. -/
  | indicator (c : Color)
  deriving DecidableEq, Repr

/-- One presentation of the host on the command port: the word, and the two input ports, which the host keeps stable
until the command ends (10_state.md R30, R38; 70_reset_and_hazards.md R350). -/
structure Presentation where
  cmd : CmdWord
  /-- The level of `BTN_N`: false is the pressed state (42_button_hold.md R202). -/
  btnN : Bool
  now : Time
  deriving DecidableEq, Repr

/-! ## The reasons a step can stop -/

/-- No command stops the block: a command that cannot complete ends with a status code and the block goes on
(60_exceptions.md R300, R307), so there is no fault reason, and nothing raises one. -/
inductive Fault : Type
  deriving DecidableEq, Repr

/-- The reasons a step has no meaning. -/
inductive Refusal where
  /-- Raised by an arm of `exec` whose command has no meaning yet; no arm does. Safe: the model stops. -/
  | notModelled (mnemonic : String)
  deriving DecidableEq, Repr

/-! ## The state -/

/-- Every piece of state of the block, the input ports as the accepted command sees them, the other agents' coming
moves, and the history of events. INVENTORY.md lists each field with its rule. -/
structure State where
  /-- `CAL_VALUE` (R21). -/
  calValue : U16
  /-- `CONFIG_WORD` (R22). -/
  configWord : U16
  /-- `MAX_CURRENT_MA` (R23). -/
  maxCurrentMa : U16
  /-- `SHUNT_MOHM` (R23). -/
  shuntMohm : U16
  /-- `PUSH_DURATION` (R24, D43). -/
  pushDuration : U16
  /-- `NORM_STATE` (R24). -/
  normState : Bool
  /-- `LAST_SAMPLE_TIME` (R24). -/
  lastSampleTime : Time
  /-- `GATE_ENABLED` (R34). -/
  gateEnabled : Bool
  /-- The level of the output pin `PROBE` (R29). -/
  probe : Bool
  /-- The level of the output pin `OUT_EN` (R29). -/
  outEn : Bool
  /-- `RES_KIND` (R26). -/
  resKind : ResultKind
  /-- `RES_NUM`, an s64 (R26). -/
  resNum : BitVec 64
  /-- `RES_DEN`, a u32 (R26). -/
  resDen : BitVec 32
  /-- `STATUS` (R31). -/
  status : U16
  /-- `READY` (R38). -/
  ready : Bool
  /-- The input port `BTN_N` (R30; log 4). -/
  btnN : Bool
  /-- The input port `NOW` (R30; log 4). -/
  now : Time
  /-- The host's coming presentations on the command port, the next one first (R38, R350; log 3). -/
  inbox : List Presentation
  /-- The chip's coming two-byte read answers, the next one first (R63, R66; log 1). -/
  reads : List (Byte × Byte)
  /-- The chip's coming write acknowledges, the next one first (R62, R66; log 1). -/
  acks : List Ack
  /-- How many read answers were free draws (log 1). -/
  readDraws : Nat
  /-- How many acknowledges were free draws (log 1). -/
  ackDraws : Nat
  /-- Every event recorded so far, oldest first (R10, R69; log 5). -/
  trace : List Event
  deriving DecidableEq, Repr

/-- The state after block power-on reset (10_state.md R36; 70_reset_and_hazards.md R340).
The input ports and the other agents' lists have no reset value in the spec (logs 3, 4, 12). -/
def State.reset : State where
  calValue := 0#16
  configWord := Config.configInit
  maxCurrentMa := 0#16
  shuntMohm := 0#16
  pushDuration := 0#16
  normState := false
  lastSampleTime := 0#32
  gateEnabled := false
  probe := false
  outEn := false
  resKind := .none
  resNum := 0#64
  resDen := 1#32
  status := 0#16
  ready := true
  btnN := true
  now := 0#32
  inbox := []
  reads := []
  acks := []
  readDraws := 0
  ackDraws := 0
  trace := []

end Sys2Proof.Machine
end

