-- ==== Sys2Proof/Machine/Flags.lean ====
section
/-! DEFINITION. The fields of `STATUS` (10_state.md R31), the codes they hold (60_exceptions.md R300), and what the end of a command writes (R301). -/

namespace Sys2Proof.Machine

/-- The number of a status code (R300). -/
def StatusCode.code : StatusCode → BitVec 4
  | .ok => 0
  | .illegalCmd => 1
  | .notInit => 2
  | .calRange => 3
  | .fatal => 4
  | .busFailInit => 5

/-- The number of a result kind in `RES_KIND` (R26). -/
def ResultKind.code : ResultKind → BitVec 4
  | .none => 0
  | .busMv => 1
  | .shuntMv => 2
  | .currentMa => 3
  | .powerMw => 4
  | .resistanceOhm => 5
  | .openCircuit => 6
  | .regval => 7

/-- The number of a colour on the indicator port (R28). -/
def Color.code : Color → BitVec 1
  | .inactive => 0
  | .active => 1

/-! ## Reading STATUS (R31) -/

/-- `INIT_DONE`, bit 0. -/
def initDone (w : U16) : Bool := w.getLsbD 0

/-- `FATAL`, bit 1. -/
def fatalFlag (w : U16) : Bool := w.getLsbD 1

/-- `ERR_SEEN`, bit 2. -/
def errSeen (w : U16) : Bool := w.getLsbD 2

/-- `LAST_CODE`, bits 7:4. -/
def lastCode (w : U16) : BitVec 4 := w.extractLsb' 4 4

/-- The reserved bits 3 and 15:8, in place (R31). -/
def reservedBits (w : U16) : U16 := w &&& 0xFF08#16

/-- What a read of `STATUS` gives: the reserved bits read as 0 (R31; log 8). -/
def readStatus (w : U16) : U16 := w &&& 0x00F7#16

/-! ## Writing its fields (R31: no command writes STATUS as a whole) -/

/-- `v` with bit `n` set to `b`. -/
def withBit (n : Nat) (b : Bool) (w : U16) : U16 :=
  if b then w ||| (1#16 <<< n) else w &&& ~~~(1#16 <<< n)

/-- `INIT_DONE <- b` (R161). -/
def setInitDone (b : Bool) (w : U16) : U16 := withBit 0 b w

/-- `FATAL <- b` (R161). -/
def setFatal (b : Bool) (w : U16) : U16 := withBit 1 b w

/-- `ERR_SEEN <- b` (R301). -/
def setErrSeen (b : Bool) (w : U16) : U16 := withBit 2 b w

/-- `LAST_CODE <- c` (R301). -/
def setLastCode (c : BitVec 4) (w : U16) : U16 := (w &&& 0xFF0F#16) ||| (c.setWidth 16 <<< 4)

/-- What the end of a command writes into `STATUS`: its code, and `ERR_SEEN` if the code is not OK (R301). -/
def endStatus (c : StatusCode) (w : U16) : U16 :=
  if c = .ok then setLastCode c.code w else setErrSeen true (setLastCode c.code w)

end Sys2Proof.Machine
end

