-- ==== Sys2Proof/Machine/Operands.lean ====
section
/-! DEFINITION. Every value the commands compute from an operand or a raw reading, as exact integers and rationals
(00_scope.md R8; D5): bus readings, currents, powers, the calibration value, the resistance calculator, the button
accumulator, and the configuration words.

A value is narrowed to a register's width in one place, `setResult` and `report` of Ops.lean. -/

namespace Sys2Proof.Machine

/-! ## Bytes of the bus (20_memory.md R62, R63) -/

/-- The u16 of the two bytes of a read, `{b1, b2}`: the first byte is the more significant (R63). -/
def joinBytes (b : Byte × Byte) : U16 := b.1 ++ b.2

/-- `v[15:8]`, the first data byte of a write (R62). -/
def highByte (v : U16) : Byte := v.extractLsb' 8 8

/-- `v[7:0]`, the second data byte of a write (R62). -/
def lowByte (v : U16) : Byte := v.extractLsb' 0 8

/-! ## Readings (40_sensor_driver.md, 41_calibration_restore.md) -/

/-- The bus voltage in mV of a raw reading: `(raw >> 3) * 4` (R128). -/
def busMillivolts (raw : U16) : Nat := (raw.toNat >>> Config.busShift) * Config.busLsbMv

/-- `s16(raw)`: the two's-complement reading (R8). -/
def signed16 (raw : U16) : Int := raw.toInt

/-- The numerator over 100 of the shunt voltage in mV (R130). -/
def shuntNumerator (raw : U16) : Int := signed16 raw

/-- The numerator over 32768 of the current in mA: `s16(raw) * MAX_CURRENT_MA` (R23, R180; signedness: log 9). -/
def currentNumerator (raw maxCurrentMa : U16) : Int := signed16 raw * (maxCurrentMa.toNat : Int)

/-- The numerator over 32768 of the power in mW: `zext(raw) * 20 * MAX_CURRENT_MA` (R23, R181; signedness: log 9). -/
def powerNumerator (raw maxCurrentMa : U16) : Int :=
  ((raw.toNat * Config.pwrMul * maxCurrentMa.toNat : Nat) : Int)

/-! ## The calibration value (41_calibration_restore.md R160 to R163) -/

/-- `round(n / d)`, half up: `floor(n / d + 1 / 2)` for `d > 0` (R8, R162). -/
def roundDiv (n d : Nat) : Nat := (2 * n + d) / (2 * d)

/-- `round(CAL_K * 32768 / (M * S))` (R160). -/
def calibrationOf (m s : U16) : Nat := roundDiv (Config.calK * Config.curDiv) (m.toNat * s.toNat)

/-- INIT accepts the operands: neither is zero and the calibration value lies in `[1, 65535]` (R161, R163). -/
def calibrationFits (m s : U16) : Bool :=
  m ≠ 0#16 && s ≠ 0#16 && calibrationOf m s ≠ 0 && decide (calibrationOf m s ≤ 65535)

/-! ## Configuration words (40_sensor_driver.md) -/

/-- `(CONFIG_WORD & ~mask) | value` (R125; the value is not masked, D35). -/
def updatedConfig (config value mask : U16) : U16 := (config &&& ~~~mask) ||| value

/-- `CONFIG_WORD & ~MODE_MASK` (R140). -/
def idleConfig (config : U16) : U16 := config &&& ~~~Config.modeMask

/-! ## The button accumulator (42_button_hold.md) -/

/-- `dt`: the elapsed time modulo 2^32 (R205). -/
def elapsed (now last : Time) : Time := now - last

/-- `min(PUSH_DURATION + dt, MAX_HOLD)`, the sum exact (R206). -/
def charge (duration : U16) (dt : Time) : U16 :=
  BitVec.ofNat 16 (min (duration.toNat + dt.toNat) Config.maxHold)

/-- `max(PUSH_DURATION - (dt + 1), 0)`: the truncated difference of natural numbers is that maximum (R207). -/
def discharge (duration : U16) (dt : Time) : U16 :=
  BitVec.ofNat 16 (duration.toNat - (dt.toNat + 1))

/-- `NORM_STATE` after a charge or a discharge that left `duration` (R208). -/
def hysteresis (duration : U16) (norm : Bool) : Bool :=
  if duration.toNat = Config.maxHold then true
  else if duration = 0#16 then false
  else norm

/-! ## The resistance calculator (43_resistance.md) -/

/-- `ResistanceOf(v)`: a kind and a rational `n / d` (R231). -/
def resistanceOf (v : Nat) : ResultKind × Int × Nat :=
  if v < Config.shortThreshMv then (.resistanceOhm, 0, 1)
  else if v ≥ Config.openThreshMv then (.openCircuit, Config.openSentinel, 1)
  else (.resistanceOhm, ((Config.rrefOhm * v : Nat) : Int), Config.vrefMv - v)

/-! ## Waits (70_reset_and_hazards.md R345, R346) -/

/-- The lower bound of a wait in milliseconds; nothing of the model depends on it (R345, R351; log 14). -/
def Wait.lowerBoundMs : Wait → Nat
  | .ptrRead => Config.tPtrRead
  | .conv => Config.tConv
  | .resetSettle => Config.tResetSettle

end Sys2Proof.Machine
end

