-- ==== Sys2Proof/Machine/Ops.lean ====
section
/-! DEFINITION. The primitives of the spec's pseudocode (00_scope.md R9), each once: the oracle's answers, the two bus
transactions, waits, pins, reports, results, host registers, the end of a command, and the checks before one (R302).

The block has no trap entry and no return (60_exceptions.md R307): `command` and `illegalWord` are the one place where
a command ends early with a code. -/

namespace Sys2Proof.Machine

/-! ## Recording events (R9) -/

/-- Record one event at the end of the history (R9, R69). -/
def record (e : Event) (s : State) : State := { s with trace := s.trace ++ [e] }

/-- `Delay(t)`: records the wait and changes no other state (R9, R345). -/
def delay (t : Wait) (s : State) : State := record (.delay t) s

/-! ## The oracle (20_memory.md R66; log 1) -/

/-- The two bytes of the k-th coming read answer: from the chip's list, and a free draw beyond its end. -/
def readAnswerBytes (k : Nat) (s : State) : Byte × Byte :=
  match s.reads[k]? with
  | some b => b
  | none => Config.freeRead (s.readDraws + (k - s.reads.length))

/-- The k-th coming read answer as the u16 `BusRead` returns (R63). -/
def readAnswer (k : Nat) (s : State) : U16 := joinBytes (readAnswerBytes k s)

/-- The state after the chip has given `k` read answers. -/
def takeReads (k : Nat) (s : State) : State :=
  { s with reads := s.reads.drop k, readDraws := s.readDraws + (k - s.reads.length) }

/-- The k-th coming write acknowledge: from the chip's list, and a free draw beyond its end. -/
def ackAnswer (k : Nat) (s : State) : Ack :=
  match s.acks[k]? with
  | some a => a
  | none => if Config.freeAck (s.ackDraws + (k - s.acks.length)) then .ok else .fail

/-- The state after the chip has given `k` acknowledges. -/
def takeAcks (k : Nat) (s : State) : State :=
  { s with acks := s.acks.drop k, ackDraws := s.ackDraws + (k - s.acks.length) }

/-! ## Bus transactions (20_memory.md R62, R63) -/

/-- `BusWrite(ptr, v)`: one write transaction, with the acknowledge the oracle chooses (R62). -/
def busWrite (ptr : Byte) (v : U16) (s : State) : Ack × State :=
  (ackAnswer 0 s, record (.busWr ptr v (ackAnswer 0 s)) (takeAcks 1 s))

/-- `BusRead(ptr)`: register select, wait, read; it returns the u16 (R63). -/
def busRead (ptr : Byte) (s : State) : U16 × State :=
  let selected := delay .ptrRead (record (.busSel ptr) s)
  let v := readAnswer 0 selected
  (v, record (.busRd ptr v) (takeReads 1 selected))

/-- `ReadBusMv()`: the bus voltage in mV (40_sensor_driver.md R128). -/
def readBusMv (s : State) : Nat × State :=
  let (raw, s1) := busRead Config.ptrBus s
  (busMillivolts raw, s1)

/-! ## Outputs (10_state.md R26 to R29) -/

/-- `Pin(name) <- level`: drives the pin and records the event (R9, R29). -/
def drivePin (p : Pin) (level : Bool) (s : State) : State :=
  match p with
  | .probe => record (.pin .probe level) { s with probe := level }
  | .outEn => record (.pin .outEn level) { s with outEn := level }

/-- `Report(kind, n, d, resetAvg)`, with `n` an s64 and `d` a u32 (R27; narrowing: log 26). -/
def report (kind : ReportKind) (n : Int) (d : Nat) (resetAvg : Bool) (s : State) : State :=
  record (.report kind (BitVec.ofInt 64 n) (BitVec.ofNat 32 d) resetAvg) s

/-- `Indicator(color)` (R28). -/
def indicator (c : Color) (s : State) : State := record (.indicator c) s

/-- `Result(kind, n, d)`: writes the three result registers (R26; narrowing: log 26). -/
def setResult (kind : ResultKind) (n : Int) (d : Nat) (s : State) : State :=
  { s with resKind := kind, resNum := BitVec.ofInt 64 n, resDen := BitVec.ofNat 32 d }

/-! ## The restore protocol (41_calibration_restore.md R170) -/

/-- One restore: configuration, then calibration, each acknowledge ignored, then the conversion wait (R170). -/
def restoreChip (s : State) : State :=
  delay .conv (busWrite Config.ptrCal s.calValue (busWrite Config.ptrConfig s.configWord s).2).2

/-- `ReadWithRestore(ptr)` with `retries` restores left before the bound (R170, R171). -/
def readWithRestore (ptr : Byte) (retries : Nat) (s : State) : U16 × State :=
  let (raw, s1) := busRead ptr s
  if raw ≠ 0#16 then (raw, s1)
  else
    let (cal, s2) := busRead Config.ptrCal s1
    if cal ≠ 0#16 then (0#16, s2)
    else
      match retries with
      | 0 => (0#16, s2)
      | n + 1 => readWithRestore ptr n (restoreChip s2)

/-- `ReadCurrentMa()`: the numerator over 32768 (R180). -/
def readCurrentMa (s : State) : Int × State :=
  let (raw, s1) := readWithRestore Config.ptrCurrent Config.maxRetry s
  (currentNumerator raw s1.maxCurrentMa, s1)

/-! ## The button step (42_button_hold.md R201) -/

/-- The button is pressed: `BTN_N` is 0 (R202). -/
def pressed (s : State) : Bool := !s.btnN

/-- The unlock of a pressed sample at `PUSH_DURATION == 0` (R203). -/
def unlock (s : State) : State :=
  if pressed s ∧ s.pushDuration = 0#16 then { s with pushDuration := 1#16, lastSampleTime := s.now } else s

/-- `PUSH_DURATION` after `dt` units of the present input (R206, R207). -/
def movedDuration (s : State) (dt : Time) : U16 :=
  if pressed s then charge s.pushDuration dt else discharge s.pushDuration dt

/-- The part of the step after the unlock: idle (R204), no-op at `dt == 0` (R205), or charge and discharge (R206 to R208). -/
def accumulate (s : State) : State :=
  if s.pushDuration = 0#16 then s
  else if elapsed s.now s.lastSampleTime = 0#32 then s
  else
    let duration := movedDuration s (elapsed s.now s.lastSampleTime)
    { s with
      lastSampleTime := s.now
      pushDuration := duration
      normState := hysteresis duration s.normState }

/-- `ButtonStep()`; the value it returns is the new `normState` (R201). -/
def buttonStep (s : State) : State := accumulate (unlock s)

/-! ## The measurement sequencer (43_resistance.md R236) -/

/-- Resistance mode: assert the probe, read again, calculate, report (R236 step 3). -/
def resistanceMode (s : State) : State :=
  let (v2, s2) := readBusMv (drivePin .probe true s)
  let (kind, n, d) := resistanceOf v2
  setResult kind n d (report .resistance n d false s2)

/-- Voltage mode: report the bus voltage (R236 step 4). -/
def voltageMode (v : Nat) (s : State) : State :=
  setResult .busMv v 1 (report .voltage v 1 false s)

/-- `Measure()` (R236). -/
def measureStep (s : State) : State :=
  let (v, s1) := readBusMv (drivePin .probe false s)
  if v < Config.modeThreshMv then resistanceMode s1 else voltageMode v s1

/-! ## Host registers (10_state.md R33) -/

/-- The index PINS: bit 0 `PROBE`, bit 1 `OUT_EN`, bit 2 `GATE_ENABLED`, bit 3 `NORM_STATE` (R33). -/
def pinsWord (s : State) : Nat :=
  s.probe.toNat + 2 * s.outEn.toNat + 4 * s.gateEnabled.toNat + 8 * s.normState.toNat

/-- The value of a host register, zero-extended; no register at an index above 0x07 (R33, R290). -/
def hostRegister (index : Nat) (s : State) : Option Nat :=
  match index with
  | 0x00 => some (readStatus s.status).toNat
  | 0x01 => some s.calValue.toNat
  | 0x02 => some s.configWord.toNat
  | 0x03 => some s.maxCurrentMa.toNat
  | 0x04 => some s.shuntMohm.toNat
  | 0x05 => some s.pushDuration.toNat
  | 0x06 => some s.lastSampleTime.toNat
  | 0x07 => some (pinsWord s)
  | _ => none

/-! ## The start and the end of a command (R38, R300 to R302) -/

/-- The end of a command: its code goes to `STATUS`, and `READY` returns to 1 (R38, R301). -/
def finish (code : StatusCode) (s : State) : State :=
  { s with status := endStatus code s.status, ready := true }

/-- The checks 1 and 3 of the preamble for a word that decodes, in their order (R302). -/
def preamble (i : Instr) (s : State) : Option StatusCode :=
  if fatalFlag s.status ∧ i.opcode ≠ rdregOpcode then some .fatal
  else if i.needsInit ∧ initDone s.status = false then some .notInit
  else none

/-- One whole command: the preamble, then its own rule, then its end. `body` gives the code the rule ends with (R300 to R302). -/
def command (i : Instr) (body : State → StatusCode × State) (s : State) : Host.Outcome State Fault Refusal :=
  match preamble i s with
  | some code => .next (finish code s)
  | none => .next (finish (body s).1 (body s).2)

/-- A rule that ends with `return`: status OK (R9). -/
def completes (f : State → State) (s : State) : StatusCode × State := (.ok, f s)

/-- A word the decoder refuses: check 1 of the preamble comes before check 2, so an illegal word ends with FATAL while
`FATAL == 1`, unless its `OP` is RDREG's (R93, R302; log 17). -/
def illegalWord (w : CmdWord) (s : State) : Host.Outcome State Fault Refusal :=
  .next (finish (if fatalFlag s.status ∧ opField w ≠ rdregOpcode then .fatal else .illegalCmd) s)

/-- The block accepts the presentation: `READY` falls, and the input ports hold the levels presented with the word
(R38, R350). -/
def accept (p : Presentation) (rest : List Presentation) (s : State) : State :=
  { s with inbox := rest, btnN := p.btnN, now := p.now, ready := false }

/-- The outcome of an accepted word: decode and run it, or end it as illegal (R95, R302). -/
def runWord (w : CmdWord) (s : State) (exec : Instr → State → Host.Outcome State Fault Refusal) :
    Host.Outcome State Fault Refusal :=
  match decode w with
  | .ok i => exec i s
  | .error _ => illegalWord w s

/-- The host presents a word next, with the input ports as they stand, and the block is ready to accept it (log 3). -/
def presentWord (w : CmdWord) (s : State) : State :=
  { s with ready := true, inbox := ⟨w, s.btnN, s.now⟩ :: s.inbox }

end Sys2Proof.Machine
end

