-- ==== Sys2Proof/Machine/Button.lean ====
section
/-! DEFINITION. The button command BTNSAMPLE (42_button_hold.md). -/

namespace Sys2Proof.Machine

/-- BTNSAMPLE's own rule: one button step, whose value is the result (R200). -/
def btnsampleBody (s : State) : State :=
  let s1 := buttonStep s
  setResult .regval s1.normState.toInt 1 s1

/-- BTNSAMPLE (R200). -/
def execBtnsample (s : State) : Host.Outcome State Fault Refusal :=
  command .btnsample (completes btnsampleBody) s

end Sys2Proof.Machine
end

