-- ==== Sys2Proof/Machine/Calibration.lean ====
section
/-! DEFINITION. The calibration commands INIT, RDCUR and RDPWR (41_calibration_restore.md). -/

namespace Sys2Proof.Machine

/-- INIT's shadow write (R161). -/
def writeShadow (m sh : U16) (s : State) : State :=
  { s with maxCurrentMa := m, shuntMohm := sh, calValue := BitVec.ofNat 16 (calibrationOf m sh) }

/-- INIT after the chip has answered its calibration write (R161). -/
def concludeInit (ack : Ack) (s : State) : StatusCode × State :=
  match ack with
  | .ok => (.ok, { s with status := setInitDone true s.status })
  | .fail => (.busFailInit, { s with status := setFatal true (setInitDone false s.status) })

/-- INIT's own rule: range check, shadow, one write of the calibration register, flags (R161, R163). -/
def initBody (m sh : U16) (s : State) : StatusCode × State :=
  if calibrationFits m sh then
    let (ack, s1) := busWrite Config.ptrCal (BitVec.ofNat 16 (calibrationOf m sh)) (writeShadow m sh s)
    concludeInit ack s1
  else (.calRange, s)

/-- INIT imax, rshunt (R161). -/
def execInit (imax rshunt : U16) (s : State) : Host.Outcome State Fault Refusal :=
  command (.init imax rshunt) (initBody imax rshunt) s

/-- RDCUR's own rule (R180). -/
def rdcurBody (s : State) : State :=
  let (n, s1) := readCurrentMa s
  setResult .currentMa n Config.curDiv s1

/-- RDCUR (R180). -/
def execRdcur (s : State) : Host.Outcome State Fault Refusal :=
  command .rdcur (completes rdcurBody) s

/-- RDPWR's own rule (R181). -/
def rdpwrBody (s : State) : State :=
  let (raw, s1) := readWithRestore Config.ptrPower Config.maxRetry s
  setResult .powerMw (powerNumerator raw s1.maxCurrentMa) Config.curDiv s1

/-- RDPWR (R181). -/
def execRdpwr (s : State) : Host.Outcome State Fault Refusal :=
  command .rdpwr (completes rdpwrBody) s

end Sys2Proof.Machine
end

