-- ==== Sys2Proof/Machine/Driver.lean ====
section
/-! DEFINITION. The sensor register driver commands UPDCFG, RDBUSV, RDSHUNT, PWRSAVE and RESET (40_sensor_driver.md). -/

namespace Sys2Proof.Machine

/-- UPDCFG's own rule: the shadow first, then one write whose acknowledge is ignored (R125). -/
def updcfgBody (value mask : U16) (s : State) : State :=
  let new := updatedConfig s.configWord value mask
  (busWrite Config.ptrConfig new { s with configWord := new }).2

/-- UPDCFG value, mask (R125). -/
def execUpdcfg (value mask : U16) (s : State) : Host.Outcome State Fault Refusal :=
  command (.updcfg value mask) (completes (updcfgBody value mask)) s

/-- RDBUSV's own rule (R128). -/
def rdbusvBody (s : State) : State :=
  let (mv, s1) := readBusMv s
  setResult .busMv mv 1 s1

/-- RDBUSV (R128). -/
def execRdbusv (s : State) : Host.Outcome State Fault Refusal :=
  command .rdbusv (completes rdbusvBody) s

/-- RDSHUNT's own rule (R130). -/
def rdshuntBody (s : State) : State :=
  let (raw, s1) := busRead Config.ptrShunt s
  setResult .shuntMv (shuntNumerator raw) Config.shuntDen s1

/-- RDSHUNT (R130). -/
def execRdshunt (s : State) : Host.Outcome State Fault Refusal :=
  command .rdshunt (completes rdshuntBody) s

/-- PWRSAVE's own rule: the shadow is not written (R140). -/
def pwrsaveBody (enable : Bool) (s : State) : State :=
  if enable then (busWrite Config.ptrConfig (idleConfig s.configWord) s).2
  else (busWrite Config.ptrConfig s.configWord s).2

/-- PWRSAVE enable (R140). -/
def execPwrsave (enable : Bool) (s : State) : Host.Outcome State Fault Refusal :=
  command (.pwrsave enable) (completes (pwrsaveBody enable)) s

/-- RESET's own rule: the chip reset write, then the settle wait; no shadow field changes (R145). -/
def resetBody (s : State) : State :=
  delay .resetSettle (busWrite Config.resetPtr Config.resetValue s).2

/-- RESET, the chip reset command (R145). -/
def execReset (s : State) : Host.Outcome State Fault Refusal :=
  command .reset (completes resetBody) s

end Sys2Proof.Machine
end

