-- ==== Sys2Proof/Machine/Gate.lean ====
section
/-! DEFINITION. The output gate sequencer and the control cycle, CYCLE (44_output_gate.md). -/

namespace Sys2Proof.Machine

/-- Read the current, report it and store it as the result (R260). -/
def reportCurrent (resetAvg : Bool) (s : State) : State :=
  let (n, s1) := readCurrentMa s
  setResult .currentMa n Config.curDiv (report .current n Config.curDiv resetAvg s1)

/-- Becoming enabled: probe off, output on, indicator, one current reading that resets the average (R260, R261). -/
def becomeEnabled (s : State) : State :=
  reportCurrent true (indicator .active (drivePin .outEn true (drivePin .probe false s)))

/-- Becoming disabled: output off, indicator (R260, R261). -/
def becomeDisabled (s : State) : State := indicator .inactive (drivePin .outEn false s)

/-- A confirmed transition to `want`, which consumes the cycle (R261). -/
def gateTransition (want : Bool) (s : State) : State :=
  { (if want then becomeEnabled s else becomeDisabled s) with gateEnabled := want }

/-- A cycle with no transition (R262). -/
def steadyCycle (orch : Bool) (s : State) : State :=
  if s.gateEnabled then
    (if orch then measureStep (reportCurrent false s) else reportCurrent false s)
  else measureStep s

/-- CYCLE's own rule, for either value of `ORCH_WHILE_ENABLED` (R260, R262). -/
def cycleBody (orch : Bool) (s : State) : State :=
  let s1 := buttonStep s
  if s1.normState ≠ s1.gateEnabled then gateTransition s1.normState s1 else steadyCycle orch s1

/-- CYCLE (R260). -/
def execCycle (s : State) : Host.Outcome State Fault Refusal :=
  command .cycle (completes (cycleBody Config.orchWhileEnabled)) s

end Sys2Proof.Machine
end

