-- ==== Sys2Proof/Machine/HostAccess.lean ====
section
/-! DEFINITION. Host register access, RDREG (45_host_access.md). -/

namespace Sys2Proof.Machine

/-- RDREG's own rule: the register as it stands before this command's status update; an index above 0x07 ends with
ILLEGAL_CMD and no other effect (R94, R290). -/
def rdregBody (index : U16) (s : State) : StatusCode × State :=
  match hostRegister index.toNat s with
  | some v => (.ok, setResult .regval (v : Int) 1 s)
  | none => (.illegalCmd, s)

/-- RDREG index (R290). -/
def execRdreg (index : U16) (s : State) : Host.Outcome State Fault Refusal :=
  command (.rdreg index) (rdregBody index) s

end Sys2Proof.Machine
end

