-- ==== Sys2Proof/Machine/Measure.lean ====
section
/-! DEFINITION. The resistance commands RESCALC and MEASURE (43_resistance.md). -/

namespace Sys2Proof.Machine

/-- RESCALC's own rule (R230). -/
def rescalcBody (mv : U16) (s : State) : State :=
  let (kind, n, d) := resistanceOf mv.toNat
  setResult kind n d s

/-- RESCALC mv (R230). -/
def execRescalc (mv : U16) (s : State) : Host.Outcome State Fault Refusal :=
  command (.rescalc mv) (completes (rescalcBody mv)) s

/-- MEASURE (R236). -/
def execMeasure (s : State) : Host.Outcome State Fault Refusal :=
  command .measure (completes measureStep) s

end Sys2Proof.Machine
end

