-- ==== Sys2Proof/Machine/Dispatch.lean ====
section
/-! DEFINITION. One arm per command, in the order of the opcode map (30_encoding.md R92). -/

namespace Sys2Proof.Machine

def exec (i : Instr) (s : State) : Host.Outcome State Fault Refusal :=
  match i with
  | .init imax rshunt => Sys2Proof.Machine.execInit imax rshunt s
  | .updcfg value mask => Sys2Proof.Machine.execUpdcfg value mask s
  | .rdbusv => Sys2Proof.Machine.execRdbusv s
  | .rdshunt => Sys2Proof.Machine.execRdshunt s
  | .rdcur => Sys2Proof.Machine.execRdcur s
  | .rdpwr => Sys2Proof.Machine.execRdpwr s
  | .pwrsave enable => Sys2Proof.Machine.execPwrsave enable s
  | .reset => Sys2Proof.Machine.execReset s
  | .btnsample => Sys2Proof.Machine.execBtnsample s
  | .rescalc mv => Sys2Proof.Machine.execRescalc mv s
  | .measure => Sys2Proof.Machine.execMeasure s
  | .cycle => Sys2Proof.Machine.execCycle s
  | .rdreg index => Sys2Proof.Machine.execRdreg index s

end Sys2Proof.Machine
end

