-- ==== Sys2Proof/Machine/Step.lean ====
section
/-! DEFINITION. One step of the block: one command, to completion (00_scope.md R10), or idling. -/

namespace Sys2Proof.Machine

/-- One step (R10, R38).
With a word on the command port and `READY = 1` the block accepts it and runs it to its end.
With none it is idle and keeps all its state (R316).
While `READY = 0` a word is not accepted (R350; log 7). -/
def step (s : State) : Host.Outcome State Fault Refusal :=
  match s.inbox with
  | [] => .next s
  | p :: rest => if s.ready then runWord p.cmd (accept p rest s) exec else .next s

/-- The state in which the very next step runs the given opcode-table word: the host presents it next (log 3, log 16). -/
def State.withFetchWord (s : State) (nbits w : Nat) : State := presentWord (tableWord nbits w) s

end Sys2Proof.Machine
end

