-- ==== Sys2Proof/Machine/Assembly.lean ====
section
/-! DEFINITION. The assembler syntax and the pseudo-commands (30_encoding.md R98, R99), over lists of characters.

Spaces are allowed around a command and its operands, mnemonics are in capitals, and hexadecimal digits may be in
either case (log 24). No meaning depends on this file. -/

namespace Sys2Proof.Machine

/-! ## Pseudo-commands (R99) -/

/-- `SETCFG v`. -/
def setcfg (v : U16) : Instr := .updcfg v 0xFFFF

/-- `ORCFG v`. -/
def orcfg (v : U16) : Instr := .updcfg v 0x0000

/-- `PSAVE.ON`. -/
def psaveOn : Instr := .pwrsave true

/-- `PSAVE.OFF`. -/
def psaveOff : Instr := .pwrsave false

/-- `RDSTATUS`. -/
def rdstatus : Instr := .rdreg 0x00

/-! ## Numbers: decimal, or hexadecimal with the prefix 0x (R98) -/

/-- The value of a digit in a base up to 16. -/
def digitValue (base : Nat) (c : Char) : Option Nat :=
  let n := c.toNat
  let d := if 48 ≤ n ∧ n ≤ 57 then n - 48
    else if 65 ≤ n ∧ n ≤ 70 then n - 55
    else if 97 ≤ n ∧ n ≤ 102 then n - 87
    else 16
  if d < base then some d else none

/-- The value of a run of digits after `acc`. -/
def digitsValue (base acc : Nat) : List Char → Option Nat
  | [] => some acc
  | c :: cs => (digitValue base c).bind fun d => digitsValue base (acc * base + d) cs

/-- A number, not empty (R98). -/
def parseNumber : List Char → Option Nat
  | [] => none
  | ['0', 'x'] => none
  | '0' :: 'x' :: cs => digitsValue 16 0 cs
  | cs => digitsValue 10 0 cs

/-- A number that fits a u16 operand field (R91). -/
def parseU16 (cs : List Char) : Option U16 :=
  (parseNumber cs).bind fun n => if n < 65536 then some (BitVec.ofNat 16 n) else none

/-! ## A command line -/

/-- The line without the spaces at either end. -/
def trimSpaces (cs : List Char) : List Char :=
  ((cs.dropWhile (· = ' ')).reverse.dropWhile (· = ' ')).reverse

/-- The operands, separated by commas; none for an empty text (R98). -/
def splitOperands (cs : List Char) : List (List Char) :=
  if trimSpaces cs = [] then [] else (cs.splitOn ',').map trimSpaces

/-- The command of a mnemonic and its operands (R98, R99). -/
def assembleParts (mnemonic : List Char) (operands : List (List Char)) : Option Instr :=
  match operands with
  | [] =>
    if mnemonic = ['R', 'D', 'B', 'U', 'S', 'V'] then some .rdbusv
    else if mnemonic = ['R', 'D', 'S', 'H', 'U', 'N', 'T'] then some .rdshunt
    else if mnemonic = ['R', 'D', 'C', 'U', 'R'] then some .rdcur
    else if mnemonic = ['R', 'D', 'P', 'W', 'R'] then some .rdpwr
    else if mnemonic = ['R', 'E', 'S', 'E', 'T'] then some .reset
    else if mnemonic = ['B', 'T', 'N', 'S', 'A', 'M', 'P', 'L', 'E'] then some .btnsample
    else if mnemonic = ['M', 'E', 'A', 'S', 'U', 'R', 'E'] then some .measure
    else if mnemonic = ['C', 'Y', 'C', 'L', 'E'] then some .cycle
    else if mnemonic = ['P', 'S', 'A', 'V', 'E', '.', 'O', 'N'] then some psaveOn
    else if mnemonic = ['P', 'S', 'A', 'V', 'E', '.', 'O', 'F', 'F'] then some psaveOff
    else if mnemonic = ['R', 'D', 'S', 'T', 'A', 'T', 'U', 'S'] then some rdstatus
    else none
  | [x] =>
    (parseU16 x).bind fun v =>
      if mnemonic = ['P', 'W', 'R', 'S', 'A', 'V', 'E'] then
        (if v = 0 then some (.pwrsave false) else if v = 1 then some (.pwrsave true) else none)
      else if mnemonic = ['R', 'E', 'S', 'C', 'A', 'L', 'C'] then some (.rescalc v)
      else if mnemonic = ['R', 'D', 'R', 'E', 'G'] then some (.rdreg v)
      else if mnemonic = ['S', 'E', 'T', 'C', 'F', 'G'] then some (setcfg v)
      else if mnemonic = ['O', 'R', 'C', 'F', 'G'] then some (orcfg v)
      else none
  | [x, y] =>
    (parseU16 x).bind fun v => (parseU16 y).bind fun u =>
      if mnemonic = ['I', 'N', 'I', 'T'] then some (.init v u)
      else if mnemonic = ['U', 'P', 'D', 'C', 'F', 'G'] then some (.updcfg v u)
      else none
  | _ => none

/-- The command of one line of assembler text (R98). -/
def assembleLine (line : List Char) : Option Instr :=
  let text := trimSpaces line
  assembleParts (text.takeWhile (· ≠ ' ')) (splitOperands (text.dropWhile (· ≠ ' ')))

/-! ## Writing a command out (R98) -/

/-- The operands a command takes, in the order `A`, `B` (R98). -/
def commandOperands : Instr → List U16
  | .init imax rshunt => [imax, rshunt]
  | .updcfg value mask => [value, mask]
  | .rdbusv => []
  | .rdshunt => []
  | .rdcur => []
  | .rdpwr => []
  | .pwrsave enable => [if enable then 1 else 0]
  | .reset => []
  | .btnsample => []
  | .rescalc mv => [mv]
  | .measure => []
  | .cycle => []
  | .rdreg index => [index]

/-- The hexadecimal digit of a number below 16, in capitals. -/
def hexDigit (n : Nat) : Char := if n < 10 then Char.ofNat (48 + n) else Char.ofNat (55 + n)

/-- `n` in `k` hexadecimal digits, the most significant first. -/
def hexDigits : Nat → Nat → List Char
  | 0, _ => []
  | k + 1, n => hexDigits k (n / 16) ++ [hexDigit (n % 16)]

/-- The encoding of a command as 10 hexadecimal digits after 0x (R98). -/
def encodingText (i : Instr) : List Char := '0' :: 'x' :: hexDigits 10 (encode i).toNat

/-- An operand as text, in hexadecimal. -/
def operandText (v : U16) : List Char := '0' :: 'x' :: hexDigits 4 v.toNat

/-- A command as one line of assembler text (R98). -/
def commandText (i : Instr) : List Char :=
  match commandOperands i with
  | [] => i.mnemonic.toList
  | [x] => i.mnemonic.toList ++ [' '] ++ operandText x
  | x :: y :: _ => i.mnemonic.toList ++ [' '] ++ operandText x ++ [',', ' '] ++ operandText y

end Sys2Proof.Machine
end

