-- ==== Sys2Proof/Machine/Frames.lean ====
section
/-! DEFINITION. The frames the recorded bus events put on the two-wire bus (20_memory.md R62 to R64; 30_encoding.md R96, R97).

The block records transactions (R66); this file is the view of them as bytes. The address byte's layout and the
acknowledge pattern are the spec's passage from general knowledge (R64, D42; log 13). Nothing a command does depends
on this file. -/

namespace Sys2Proof.Machine

/-- One frame: its direction (`rw = 1` is a read) and the bytes after the address byte (R64, R96). -/
structure Frame where
  rw : Bool
  data : List Byte
  deriving DecidableEq, Repr

/-- The address byte `{BUS_ADDR[6:0], rw}` (R64, R96). -/
def addressByte (rw : Bool) : Byte := Config.busAddr ++ BitVec.ofBool rw

/-- `WR3`: pointer, then the value with its most significant byte first (R62, R96). -/
def wr3 (ptr : Byte) (v : U16) : Frame := ⟨false, [ptr, highByte v, lowByte v]⟩

/-- `SEL1`: the pointer alone (R63, R96). -/
def sel1 (ptr : Byte) : Frame := ⟨false, [ptr]⟩

/-- `RD2`: the two bytes of the value, the most significant first (R63, R96). -/
def rd2 (v : U16) : Frame := ⟨true, [highByte v, lowByte v]⟩

/-- The bytes of a frame in the order they are sent (R64). -/
def Frame.bytes (f : Frame) : List Byte := addressByte f.rw :: f.data

/-- Who the master acknowledges: in a read, every received byte but the last; in a write, none, since the chip
acknowledges (R64). -/
def Frame.masterAcks (f : Frame) : List Bool :=
  if f.rw then f.data.dropLast.map (fun _ => true) ++ (f.data.drop (f.data.length - 1)).map (fun _ => false)
  else f.data.map (fun _ => false)

/-- The frame of an event, if it is a bus transaction (R96). -/
def Event.frame : Event → Option Frame
  | .busWr ptr v _ => some (wr3 ptr v)
  | .busSel ptr => some (sel1 ptr)
  | .busRd _ v => some (rd2 v)
  | .delay _ => none
  | .pin _ _ => none
  | .report _ _ _ _ => none
  | .indicator _ => none

/-- The frames of a history, in order (R69). -/
def wireFrames (es : List Event) : List Frame := es.filterMap Event.frame

/-- The chip reset command on the wire (R97). -/
def chipResetFrame : Frame := wr3 Config.resetPtr Config.resetValue

end Sys2Proof.Machine
end

