-- ==== Sys2Proof/Machine/SimOracle.lean ====
section
/-! DEFINITION. The simulation oracle of 20_memory.md R67: a register-file chip for runners and smoke tests.

It is not normative and no meaning uses it: the block's own oracle is the free draw of R66 (log 1, log 27). It says of a
history of bus events whether this simple chip would have answered so. -/

namespace Sys2Proof.Machine

/-- The map `chip[ptr]` of the simulation oracle, by the six roles of R61. -/
structure SimChip where
  config : U16
  shunt : U16
  bus : U16
  power : U16
  current : U16
  cal : U16
  deriving DecidableEq, Repr

/-- `BusRead(ptr)` of the simulation oracle; current and power read 0 while the calibration is 0 (R67). -/
def SimChip.answer (c : SimChip) (ptr : Byte) : U16 :=
  if ptr = Config.ptrCal then c.cal
  else if ptr = Config.ptrCurrent then (if c.cal = 0#16 then 0#16 else c.current)
  else if ptr = Config.ptrPower then (if c.cal = 0#16 then 0#16 else c.power)
  else if ptr = Config.ptrBus then c.bus
  else if ptr = Config.ptrShunt then c.shunt
  else if ptr = Config.ptrConfig then c.config
  else 0#16

/-- `BusWrite(ptr, v)` of the simulation oracle; the chip reset command clears the calibration (R67). -/
def SimChip.store (c : SimChip) (ptr : Byte) (v : U16) : SimChip :=
  if ptr = Config.resetPtr ∧ v = Config.resetValue then { c with config := Config.configInit, cal := 0#16 }
  else if ptr = Config.ptrCal then { c with cal := v }
  else if ptr = Config.ptrConfig then { c with config := v }
  else c

/-- The environment's calibration-loss glitch, allowed between two commands (R67). -/
def SimChip.glitch (c : SimChip) : SimChip := { c with cal := 0#16 }

/-- The chip after a history of events, if every answer in it is this chip's: writes are acknowledged, reads give
the register (R67). -/
def SimChip.replay (c : SimChip) : List Event → Option SimChip
  | [] => some c
  | .busWr ptr v .ok :: es => (c.store ptr v).replay es
  | .busWr _ _ .fail :: _ => none
  | .busRd ptr v :: es => if c.answer ptr = v then c.replay es else none
  | .busSel _ :: es => c.replay es
  | .delay _ :: es => c.replay es
  | .pin _ _ :: es => c.replay es
  | .report _ _ _ _ :: es => c.replay es
  | .indicator _ :: es => c.replay es

end Sys2Proof.Machine
end

