-- ==== Sys2Proof/Safety.lean ====
section
/-! DEFINITION. What counts as a safe run, the invariants of the reachable states (10_state.md R37; 60_exceptions.md
R305), and the terms the claims use: the rules' outcomes written out in closed form, beside the pseudocode the model runs. -/

namespace Sys2Proof.Machine

/-- A run that reaches `FATAL == 1` counts as faulted (R305; log 6). -/
def State.faulted (s : State) : Prop := fatalFlag s.status = true

/-- The shadow holds what a successful INIT leaves: R37 item 4. -/
def State.calibrated (s : State) : Prop :=
  1 ≤ s.maxCurrentMa.toNat ∧ 1 ≤ s.shuntMohm.toNat ∧
  s.calValue.toNat = calibrationOf s.maxCurrentMa s.shuntMohm ∧
  1 ≤ s.calValue.toNat ∧ s.calValue.toNat ≤ 65535

/-- The invariants R37 lists, with the reserved bits of `STATUS` (R31) and the sign of `RES_DEN` (R26). -/
structure Inv (s : State) : Prop where
  /-- R37 item 1. -/
  durationBounded : s.pushDuration.toNat ≤ 100
  /-- R37 item 2. -/
  releasedAtZero : s.pushDuration = 0#16 → s.normState = false
  /-- R37 item 3. -/
  heldAtMax : s.pushDuration = 100#16 → s.normState = true
  /-- R37 item 4. -/
  shadowDerived : initDone s.status = true → s.calibrated
  /-- R37 item 5. -/
  fatalNotInit : fatalFlag s.status = true → initDone s.status = false
  /-- R37 item 6. -/
  outputFollowsGate : s.outEn = s.gateEnabled
  /-- R31: bits 3 and 15:8 are 0. -/
  reservedZero : reservedBits s.status = 0#16
  /-- R26: `RES_DEN` is at least 1. -/
  denominatorPositive : 1 ≤ s.resDen.toNat

/-- Power-on with any behaviour of the host and of the chip still to come (R340; logs 1, 3). -/
def State.powerOn (inbox : List Presentation) (reads : List (Byte × Byte)) (acks : List Ack) : State :=
  { State.reset with inbox := inbox, reads := reads, acks := acks }

/-- The states the block reaches from power-on, under every host and every chip. -/
inductive Reachable : State → Prop where
  | powerOn (inbox : List Presentation) (reads : List (Byte × Byte)) (acks : List Ack) :
      Reachable (State.powerOn inbox reads acks)
  | step {s t : State} (reached : Reachable s) (next : step s = .next t) : Reachable t

/-- A safe state: reachable and not faulted. -/
def Safe (s : State) : Prop := Reachable s ∧ ¬ s.faulted

/-! ## Words (30_encoding.md R93) -/

/-- A word is illegal, by the three clauses of R93 over its fields. -/
def illegalByFields (w : CmdWord) : Prop :=
  ((opField w).toNat = 0x00 ∨ 0x0E ≤ (opField w).toNat) ∨
  ((opField w).toNat ∈ [0x03, 0x04, 0x05, 0x06, 0x08, 0x09, 0x0B, 0x0C] ∧ aField w ≠ 0#16) ∨
  ((opField w).toNat ∈ [0x03, 0x04, 0x05, 0x06, 0x07, 0x08, 0x09, 0x0A, 0x0B, 0x0C, 0x0D] ∧ bField w ≠ 0#16) ∨
  ((opField w).toNat = 0x07 ∧ (aField w).extractLsb' 1 15 ≠ 0#15)

/-- The opcodes whose commands need `INIT_DONE` (R92). -/
def opNeedsInit (op : Byte) : Prop := op.toNat ∈ [0x02, 0x03, 0x04, 0x05, 0x06, 0x07, 0x08, 0x0B, 0x0C]

/-- The state in which an accepted word runs: the presentation has left the port, `READY` is 0, and the input ports hold
the presented levels (10_state.md R30, R38). -/
def acceptedState (p : Presentation) (rest : List Presentation) (s : State) : State :=
  { s with inbox := rest, btnN := p.btnN, now := p.now, ready := false }

/-! ## Events (00_scope.md R9) -/

/-- The three events of one `BusRead` (20_memory.md R63). -/
def readEvents (ptr : Byte) (v : U16) : List Event := [.busSel ptr, .delay .ptrRead, .busRd ptr v]

/-- The three events of one restore (41_calibration_restore.md R170). -/
def restoreEvents (s : State) (a0 a1 : Ack) : List Event :=
  [.busWr Config.ptrConfig s.configWord a0, .busWr Config.ptrCal s.calValue a1, .delay .conv]

/-- How many events of a history satisfy a test. -/
def countEvents (f : Event → Bool) (es : List Event) : Nat := (es.filter f).length

/-- The event is a read transaction. -/
def Event.isRead : Event → Bool
  | .busRd _ _ => true
  | _ => false

/-- The event is a read transaction of `ptr`. -/
def Event.isReadOf (ptr : Byte) : Event → Bool
  | .busRd q _ => q == ptr
  | _ => false

/-- The event is a write transaction. -/
def Event.isWrite : Event → Bool
  | .busWr _ _ _ => true
  | _ => false

/-- The event is the given wait. -/
def Event.isWait (t : Wait) : Event → Bool
  | .delay u => u == t
  | _ => false

/-- Every read of a history comes right after its register select and the pointer wait, and neither stands alone
(20_memory.md R63, R70). -/
def wellFramed : List Event → Bool
  | [] => true
  | .busSel p :: .delay .ptrRead :: .busRd q _ :: es => p == q && wellFramed es
  | .busSel _ :: _ => false
  | .busRd _ _ :: _ => false
  | .delay .ptrRead :: _ => false
  | .delay .conv :: es => wellFramed es
  | .delay .resetSettle :: es => wellFramed es
  | .busWr _ _ _ :: es => wellFramed es
  | .pin _ _ :: es => wellFramed es
  | .report _ _ _ _ :: es => wellFramed es
  | .indicator _ :: es => wellFramed es

/-- An event without its acknowledge. -/
def Event.forgetAck : Event → Event
  | .busWr ptr v _ => .busWr ptr v .ok
  | e => e

/-- A state without the acknowledges: the coming ones, and those in the history. -/
def State.forgetAcks (s : State) : State :=
  { s with acks := [], ackDraws := 0, trace := s.trace.map Event.forgetAck }

/-! ## Outcomes in closed form -/

/-- `ReadWithRestore` with one restore, case by case over the chip's coming answers (41_calibration_restore.md R170). -/
def restoredReading (ptr : Byte) (s : State) : U16 × State :=
  let a := fun k => readAnswer k s
  let first := s.trace ++ readEvents ptr 0#16
  let restored := first ++ readEvents Config.ptrCal 0#16 ++ restoreEvents s (ackAnswer 0 s) (ackAnswer 1 s)
  if a 0 ≠ 0#16 then (a 0, { takeReads 1 s with trace := s.trace ++ readEvents ptr (a 0) })
  else if a 1 ≠ 0#16 then (0#16, { takeReads 2 s with trace := first ++ readEvents Config.ptrCal (a 1) })
  else if a 2 ≠ 0#16 then (a 2, { takeAcks 2 (takeReads 3 s) with trace := restored ++ readEvents ptr (a 2) })
  else
    (0#16, { takeAcks 2 (takeReads 4 s) with
      trace := restored ++ readEvents ptr 0#16 ++ readEvents Config.ptrCal (a 3) })

/-- The state after a current was read, reported and stored as the result (44_output_gate.md R260). -/
def currentReported (resetAvg : Bool) (s : State) : State :=
  let r := restoredReading Config.ptrCurrent s
  let n := BitVec.ofInt 64 (r.1.toInt * (s.maxCurrentMa.toNat : Int))
  { r.2 with
    trace := r.2.trace ++ [.report .current n 32768#32 resetAvg]
    resKind := .currentMa
    resNum := n
    resDen := 32768#32 }

/-- The calculator's three cases as they stand in the result registers (43_resistance.md R231). -/
def dividerResult (v : Nat) : ResultKind × BitVec 64 × BitVec 32 :=
  if v < 2 then (.resistanceOhm, 0#64, 1#32)
  else if 5000 ≤ v then (.openCircuit, BitVec.ofInt 64 Config.openSentinel, 1#32)
  else (.resistanceOhm, BitVec.ofNat 64 (1000 * v), BitVec.ofNat 32 (5016 - v))

/-- The state after `Measure()`, by its two modes (43_resistance.md R236). -/
def measuredState (s : State) : State :=
  let v := (readAnswer 0 s).toNat / 8 * 4
  let r := dividerResult ((readAnswer 1 s).toNat / 8 * 4)
  let first := s.trace ++ [.pin .probe false] ++ readEvents Config.ptrBus (readAnswer 0 s)
  if v < 5 then
    { takeReads 2 s with
      probe := true
      trace := first ++ [.pin .probe true] ++ readEvents Config.ptrBus (readAnswer 1 s) ++
        [.report .resistance r.2.1 r.2.2 false]
      resKind := r.1
      resNum := r.2.1
      resDen := r.2.2 }
  else
    { takeReads 1 s with
      probe := false
      trace := first ++ [.report .voltage (BitVec.ofNat 64 v) 1#32 false]
      resKind := .busMv
      resNum := BitVec.ofNat 64 v
      resDen := 1#32 }

/-- The host registers as 64-bit results (10_state.md R33; the reserved bits of `STATUS` read as 0, R31). -/
def hostIndexValue (index : Nat) (s : State) : BitVec 64 :=
  match index with
  | 0 => (s.status &&& 0x00F7#16).setWidth 64
  | 1 => s.calValue.setWidth 64
  | 2 => s.configWord.setWidth 64
  | 3 => s.maxCurrentMa.setWidth 64
  | 4 => s.shuntMohm.setWidth 64
  | 5 => s.pushDuration.setWidth 64
  | 6 => s.lastSampleTime.setWidth 64
  | _ =>
    (BitVec.ofBool s.normState ++ BitVec.ofBool s.gateEnabled ++ BitVec.ofBool s.outEn ++
      BitVec.ofBool s.probe).setWidth 64

/-! ## Sequences of button samples (42_button_hold.md R209) -/

/-- One button step with the given level of `BTN_N` and the given `NOW`. -/
def sampleAt (btnN : Bool) (now : Time) (s : State) : State := buttonStep { s with btnN := btnN, now := now }

/-- `k` samples one unit apart, the first at `start`, all at one level. -/
def unitSamples (btnN : Bool) (start : Time) : Nat → State → State
  | 0, s => s
  | k + 1, s => sampleAt btnN (start + BitVec.ofNat 32 k) (unitSamples btnN start k s)

/-- Any sequence of samples. -/
def samples : List (Bool × Time) → State → State
  | [], s => s
  | x :: xs, s => samples xs (sampleAt x.1 x.2 s)

/-- The sum of the pressed `dt` values of a sequence of samples, from a given state (R209 item 2). -/
def pressedCharge : List (Bool × Time) → State → Nat
  | [], _ => 0
  | x :: xs, s =>
    (if x.1 = false ∧ s.pushDuration ≠ 0#16 then (x.2 - s.lastSampleTime).toNat else 0) +
      pressedCharge xs (sampleAt x.1 x.2 s)

end Sys2Proof.Machine
end

