-- ==== Sys2Proof/Certificates/Slice0/Obligations.lean ====
section
/-! DEFINITION. The statements for the provers. Each says which rule of spec/ it formalises; OBLIGATIONS.json lists them. -/

open Sys2Proof Sys2Proof.Machine

/-! ## Encoding (30_encoding.md) -/

/-- Command words written out from R90 to R92 and the vectors of 95_test_vectors.md decode to their commands, and words
R93 calls illegal do not decode. -/
def Obligations.WrittenOutWordsDecode : Prop :=
  decode 0x01800003E8#40 = .ok (.init 32768#16 1000#16) ∧
  decode 0x0200050007#40 = .ok (.updcfg 5#16 7#16) ∧
  decode 0x0600000000#40 = .ok .rdpwr ∧
  decode 0x0700010000#40 = .ok (.pwrsave true) ∧
  decode 0x0900000000#40 = .ok .btnsample ∧
  decode 0x0A03E80000#40 = .ok (.rescalc 1000#16) ∧
  decode 0x0C00000000#40 = .ok .cycle ∧
  decode 0x0D00070000#40 = .ok (.rdreg 7#16) ∧
  decode 0x0E00000000#40 = .error .opcode ∧
  decode 0x0300000001#40 = .error .reservedField ∧
  decode 0x0700020000#40 = .error .enableField

/-- Decoding the encoding of any command gives it back, at every value of its operands (R90 to R92). -/
def Obligations.DecodeInvertsEncode : Prop :=
  ∀ i : Instr, decode (encode i) = .ok i

/-- A word that decodes is the encoding of what it decodes to: no two words are one command (R91 to R93). -/
def Obligations.EncodeInvertsDecode : Prop :=
  ∀ (w : CmdWord) (i : Instr), decode w = .ok i → encode i = w

/-- R95: every word either matches exactly one row of the match and mask table of R92 and decodes to that row's command,
or is illegal by R93 and matches none; and the rows differ in their opcode. -/
def Obligations.DecodingIsTotalAndUnambiguous : Prop :=
  (∀ w : CmdWord,
    (∃ i r, decode w = .ok i ∧ r ∈ opcodeTable ∧ r.matchesWord w = true ∧ r.mnemonic = i.mnemonic ∧
      (∀ q ∈ opcodeTable, q.matchesWord w = true → q = r) ∧ ¬ illegalByFields w) ∨
    ((∃ e, decode w = .error e) ∧ illegalByFields w ∧ ∀ q ∈ opcodeTable, q.matchesWord w = false)) ∧
  opcodeTable.Pairwise (fun q r => opField q.pattern ≠ opField r.pattern)

/-- R93: exactly the words its three clauses name are illegal, and such a word ends with ILLEGAL_CMD and changes nothing
but `STATUS` (the presentation has left the port, and `READY` is 1 again). The premise `FATAL == 0` is R302's check 1. -/
def Obligations.IllegalWordsHaveNoEffect : Prop :=
  (∀ w : CmdWord, (∃ e, decode w = .error e) ↔ illegalByFields w) ∧
  ∀ (s : State) (p : Presentation) (rest : List Presentation),
    s.ready = true → s.inbox = p :: rest → fatalFlag s.status = false → illegalByFields p.cmd →
    step s = .next { acceptedState p rest s with status := endStatus .illegalCmd s.status, ready := true }

/-! ## Steps, codes and the order of the checks (00_scope.md R10; 60_exceptions.md) -/

/-- A step runs the presented command: with the word off the port, the input ports at the presented levels, and
`READY` at 0 (R10, R30, R38). -/
def Obligations.StepRunsPresentedCommand : Prop :=
  ∀ (s : State) (p : Presentation) (rest : List Presentation) (i : Instr),
    s.ready = true → s.inbox = p :: rest → decode p.cmd = .ok i →
    step s = exec i { s with inbox := rest, btnN := p.btnN, now := p.now, ready := false }

/-- With no word on the port the block is idle and keeps all its state (R316); while `READY` is 0 no word is accepted
(R350; that the state then stays is the model's choice, log 7). -/
def Obligations.StepIdlesWithoutCommand : Prop :=
  ∀ s : State, s.inbox = [] ∨ s.ready = false → step s = .next s

/-- The checks of the preamble, in their order (the pseudocode of R302), for any accepted word, legal or not.
The second clause with RDREG's opcode while `FATAL == 1`, an illegal word that ends with ILLEGAL_CMD, is the model's choice
(log 17): R302 says after its pseudocode that an illegal word sent while `FATAL == 1` reports FATAL. -/
def Obligations.PreambleChecksInOrder : Prop :=
  ∀ (s : State) (p : Presentation) (rest : List Presentation), s.ready = true → s.inbox = p :: rest →
    let a := acceptedState p rest s
    let op := opField p.cmd
    let passesFatal := fatalFlag s.status = false ∨ op = 0x0D#8
    (fatalFlag s.status = true → op ≠ 0x0D#8 →
      step s = .next { a with status := endStatus .fatal s.status, ready := true }) ∧
    (passesFatal → illegalByFields p.cmd →
      step s = .next { a with status := endStatus .illegalCmd s.status, ready := true }) ∧
    (passesFatal → ¬ illegalByFields p.cmd → opNeedsInit op → initDone s.status = false →
      step s = .next { a with status := endStatus .notInit s.status, ready := true }) ∧
    (passesFatal → ¬ illegalByFields p.cmd → (opNeedsInit op → initDone s.status = true) →
      ∃ i, decode p.cmd = .ok i ∧ i.opcode = op ∧ preamble i a = none ∧ step s = exec i a)

/-- R301: every accepted command ends with one code, which stands in `LAST_CODE`; `ERR_SEEN` is set by any code but OK and
never cleared; and a command that raised changes nothing but `STATUS`, but for INIT's BUS_FAIL_INIT (R303). -/
def Obligations.EveryCommandEndsWithItsCode : Prop :=
  ∀ (s : State) (p : Presentation) (rest : List Presentation), s.ready = true → s.inbox = p :: rest →
    ∃ (c : StatusCode) (t : State), step s = .next t ∧
      lastCode t.status = c.code ∧
      errSeen t.status = (errSeen s.status || decide (c ≠ .ok)) ∧
      t.ready = true ∧
      (c ≠ .ok → c ≠ .busFailInit →
        t = { acceptedState p rest s with status := endStatus c s.status, ready := true })

/-- R300's numbers: what the end of a command writes into `STATUS` (R31): the code's number into bits 7:4, `ERR_SEEN` into
bit 2, and no other bit. -/
def Obligations.StatusFieldsAtTheEnd : Prop :=
  (StatusCode.ok.code = 0#4 ∧ StatusCode.illegalCmd.code = 1#4 ∧ StatusCode.notInit.code = 2#4 ∧
    StatusCode.calRange.code = 3#4 ∧ StatusCode.fatal.code = 4#4 ∧ StatusCode.busFailInit.code = 5#4) ∧
  ∀ (c : StatusCode) (w : U16),
    (endStatus c w).extractLsb' 4 4 = c.code ∧
    (endStatus c w).getLsbD 2 = (w.getLsbD 2 || decide (c ≠ .ok)) ∧
    ∀ k, k = 0 ∨ k = 1 ∨ k = 3 ∨ 8 ≤ k → (endStatus c w).getLsbD k = w.getLsbD k

/-- R305: `FATAL == 1` (a faulted run) lasts through every step; every accepted word but one with RDREG's opcode then ends
with FATAL and has no other effect; and the only command that raises the flag is INIT, which leaves both pins alone. -/
def Obligations.FatalIsTerminal : Prop :=
  (∀ s t : State, s.faulted → step s = .next t → t.faulted) ∧
  (∀ (s : State) (p : Presentation) (rest : List Presentation),
    s.ready = true → s.inbox = p :: rest → s.faulted → opField p.cmd ≠ 0x0D#8 →
    step s = .next { acceptedState p rest s with status := endStatus .fatal s.status, ready := true }) ∧
  (∀ (i : Instr) (s t : State), ¬ s.faulted → exec i s = .next t → t.faulted →
    (∃ m sh, i = .init m sh) ∧ t.probe = s.probe ∧ t.outEn = s.outEn)

/-! ## INIT (41_calibration_restore.md) -/

/-- R161: INIT's range check, its shadow write, its one bus write, and its two endings. The calibration value is
`floor(1342177280000 / (M * S) + 1/2)` (R160, R162). -/
def Obligations.InitDerivesCalibration : Prop :=
  ∀ (m sh : U16) (s : State), fatalFlag s.status = false →
    let d := m.toNat * sh.toNat
    let cal := (2 * 1342177280000 + d) / (2 * d)
    let loaded : State :=
      { takeAcks 1 s with
        maxCurrentMa := m
        shuntMohm := sh
        calValue := BitVec.ofNat 16 cal
        trace := s.trace ++ [.busWr Config.ptrCal (BitVec.ofNat 16 cal) (ackAnswer 0 s)]
        ready := true }
    (m = 0#16 ∨ sh = 0#16 ∨ cal = 0 ∨ 65535 < cal →
      exec (.init m sh) s = .next { s with status := endStatus .calRange s.status, ready := true }) ∧
    (m ≠ 0#16 → sh ≠ 0#16 → 1 ≤ cal → cal ≤ 65535 →
      (ackAnswer 0 s = .ok →
        exec (.init m sh) s = .next { loaded with status := endStatus .ok (setInitDone true s.status) }) ∧
      (ackAnswer 0 s = .fail →
        exec (.init m sh) s =
          .next { loaded with status := endStatus .busFailInit (setFatal true (setInitDone false s.status)) }))

/-- R163: the values above 65535 are exactly those of a product `M * S` up to 20480156, the smallest value is 313, and
INIT ends with CAL_RANGE and no other effect exactly on the operands R163 lists. -/
def Obligations.CalibrationRangeIsProductBound : Prop :=
  (∀ m sh : U16, m ≠ 0#16 → sh ≠ 0#16 →
    (65535 < calibrationOf m sh ↔ m.toNat * sh.toNat ≤ 20480156) ∧ 313 ≤ calibrationOf m sh) ∧
  calibrationOf 65535#16 65535#16 = 313 ∧
  ∀ (m sh : U16) (s : State), fatalFlag s.status = false →
    (exec (.init m sh) s = .next { s with status := endStatus .calRange s.status, ready := true } ↔
      m = 0#16 ∨ sh = 0#16 ∨ 65535 < calibrationOf m sh ∨ calibrationOf m sh = 0)

/-- R162: `round` is `floor(q + 1/2)`, and the quotient of two u16 operands is never halfway between two integers. -/
def Obligations.RoundingHasNoTie : Prop :=
  (∀ n d : Nat, 0 < d → (roundDiv n d : Int) = ⌊(n : ℚ) / (d : ℚ) + 1 / 2⌋) ∧
  ∀ (m sh : U16) (k : Int), m ≠ 0#16 → sh ≠ 0#16 →
    (1342177280000 : ℚ) / ((m.toNat : ℚ) * (sh.toNat : ℚ)) ≠ (k : ℚ) + 1 / 2

/-- R164: after an INIT that ended with OK, `(M / 32768) * S * CAL_VALUE = 40960000 + e * M * S / 32768` with `|e| <= 1/2`,
and the same in amperes. -/
def Obligations.CalibrationProductIdentity : Prop :=
  ∀ (m sh : U16) (s t : State), exec (.init m sh) s = .next t → lastCode t.status = StatusCode.ok.code →
    ∃ e : ℚ, |e| ≤ 1 / 2 ∧
      ((m.toNat : ℚ) / 32768) * (sh.toNat : ℚ) * (t.calValue.toNat : ℚ) =
        40960000 + e * (m.toNat : ℚ) * (sh.toNat : ℚ) / 32768 ∧
      ((m.toNat : ℚ) / 32768000) * (sh.toNat : ℚ) * (t.calValue.toNat : ℚ) =
        40960 + e * (m.toNat : ℚ) * (sh.toNat : ℚ) / 32768000

/-! ## The driver commands (40_sensor_driver.md) -/

/-- R125: UPDCFG writes `(CONFIG_WORD & ~mask) | value` to the shadow and to the chip; everything else stays, whatever the
acknowledge. -/
def Obligations.UpdcfgWritesShadowAndChip : Prop :=
  ∀ (value mask : U16) (s : State), fatalFlag s.status = false → initDone s.status = true →
    let new := (s.configWord &&& ~~~mask) ||| value
    exec (.updcfg value mask) s =
      .next { takeAcks 1 s with
        configWord := new
        trace := s.trace ++ [.busWr Config.ptrConfig new (ackAnswer 0 s)]
        status := endStatus .ok s.status
        ready := true }

/-- R128: RDBUSV gives `(raw >> 3) * 4` mV, a multiple of 4 up to 32764; everything else stays. -/
def Obligations.RdbusvReadsMillivolts : Prop :=
  ∀ s : State, fatalFlag s.status = false → initDone s.status = true →
    let raw := readAnswer 0 s
    let mv := (raw.toNat >>> 3) * 4
    exec .rdbusv s =
      .next { takeReads 1 s with
        trace := s.trace ++ readEvents Config.ptrBus raw
        resKind := .busMv
        resNum := BitVec.ofNat 64 mv
        resDen := 1#32
        status := endStatus .ok s.status
        ready := true } ∧
    mv % 4 = 0 ∧ mv ≤ 32764

/-- R130: RDSHUNT gives `s16(raw) / 100` mV, the raw reading sign-extended to 64 bits; everything else stays. -/
def Obligations.RdshuntReadsSignedHundredths : Prop :=
  ∀ s : State, fatalFlag s.status = false → initDone s.status = true →
    exec .rdshunt s =
      .next { takeReads 1 s with
        trace := s.trace ++ readEvents Config.ptrShunt (readAnswer 0 s)
        resKind := .shuntMv
        resNum := (readAnswer 0 s).signExtend 64
        resDen := 100#32
        status := endStatus .ok s.status
        ready := true }

/-- R140: PWRSAVE writes the configuration without the mode bits, or the full shadow word; the shadow and everything else
stays. -/
def Obligations.PwrsaveWritesChipOnly : Prop :=
  ∀ (enable : Bool) (s : State), fatalFlag s.status = false → initDone s.status = true →
    let v := if enable then s.configWord &&& ~~~Config.modeMask else s.configWord
    exec (.pwrsave enable) s =
      .next { takeAcks 1 s with
        trace := s.trace ++ [.busWr Config.ptrConfig v (ackAnswer 0 s)]
        status := endStatus .ok s.status
        ready := true }

/-- R145: RESET writes the chip reset command and waits for the settle time; the block's own state stays. -/
def Obligations.ResetActsOnChipOnly : Prop :=
  ∀ s : State, fatalFlag s.status = false → initDone s.status = true →
    exec .reset s =
      .next { takeAcks 1 s with
        trace := s.trace ++ [.busWr Config.resetPtr Config.resetValue (ackAnswer 0 s), .delay .resetSettle]
        status := endStatus .ok s.status
        ready := true }

/-! ## The restore protocol, RDCUR and RDPWR (41_calibration_restore.md) -/

/-- R170: `ReadWithRestore(ptr)` in its four cases: a non-zero reading; a genuine zero; one restore and then a reading; the
bound exceeded. -/
def Obligations.RestoreProtocolCases : Prop :=
  ∀ (ptr : Byte) (s : State), readWithRestore ptr Config.maxRetry s = restoredReading ptr s

/-- R171: the bounds of the loop, for any number of retries, and at `MAX_RETRY = 1`: at most 2 reads of the register, 2 reads
of `PTR_CAL`, 2 writes, 1 conversion wait, and a pointer wait in each of the at most 4 reads. -/
def Obligations.RestoreLoopIsBounded : Prop :=
  Config.maxRetry = 1 ∧
  ∀ (ptr : Byte) (n : Nat) (s : State), ∃ es : List Event,
    (readWithRestore ptr n s).2.trace = s.trace ++ es ∧
    countEvents Event.isRead es ≤ 2 * (n + 1) ∧
    countEvents (Event.isWait .ptrRead) es = countEvents Event.isRead es ∧
    countEvents Event.isWrite es ≤ 2 * n ∧
    countEvents (Event.isWait .conv) es ≤ n ∧
    (ptr ≠ Config.ptrCal →
      countEvents (Event.isReadOf ptr) es ≤ n + 1 ∧ countEvents (Event.isReadOf Config.ptrCal) es ≤ n + 1)

/-- R180: RDCUR gives `s16(raw) * MAX_CURRENT_MA` over 32768, the raw reading from the restore protocol; everything else
stays. (That the register is signed is the spec's own decision, log 9.) -/
def Obligations.RdcurReadsSignedCurrent : Prop :=
  ∀ s : State, fatalFlag s.status = false → initDone s.status = true →
    let r := restoredReading Config.ptrCurrent s
    exec .rdcur s =
      .next { r.2 with
        resKind := .currentMa
        resNum := BitVec.ofInt 64 (r.1.toInt * (s.maxCurrentMa.toNat : Int))
        resDen := 32768#32
        status := endStatus .ok s.status
        ready := true }

/-- R181: RDPWR gives `zext(raw) * 20 * MAX_CURRENT_MA` over 32768, the raw reading from the restore protocol; everything
else stays. (That the register is unsigned is the spec's own decision, log 9.) -/
def Obligations.RdpwrReadsUnsignedPower : Prop :=
  ∀ s : State, fatalFlag s.status = false → initDone s.status = true →
    let r := restoredReading Config.ptrPower s
    exec .rdpwr s =
      .next { r.2 with
        resKind := .powerMw
        resNum := BitVec.ofNat 64 (r.1.toNat * 20 * s.maxCurrentMa.toNat)
        resDen := 32768#32
        status := endStatus .ok s.status
        ready := true }

/-- Every value a command stores into `RES_NUM` and `RES_DEN` fits: the signed reading of the 64 bits, and the unsigned
reading of the 32 bits, is the exact integer. Kind by kind (R26): BUS_MV (R128), SHUNT_MV (R130), CURRENT_MA (R180), POWER_MW
(R181), RESISTANCE_OHM and OPEN (R231), REGVAL of RDREG (R290) and of BTNSAMPLE (R200), and the constant denominators. -/
def Obligations.ResultsFitTheirRegisters : Prop :=
  (∀ raw : U16,
    (BitVec.ofInt 64 (busMillivolts raw : Int)).toInt = (busMillivolts raw : Int) ∧ busMillivolts raw ≤ 32764 ∧
    (BitVec.ofInt 64 (shuntNumerator raw)).toInt = raw.toInt) ∧
  (∀ raw m : U16,
    (BitVec.ofInt 64 (currentNumerator raw m)).toInt = raw.toInt * (m.toNat : Int) ∧
    |raw.toInt * (m.toNat : Int)| ≤ 32768 * 65535 ∧
    (BitVec.ofInt 64 (powerNumerator raw m)).toInt = ((raw.toNat * 20 * m.toNat : Nat) : Int) ∧
    raw.toNat * 20 * m.toNat ≤ 85896724500) ∧
  (∀ v : Nat, v ≤ 65535 →
    (BitVec.ofInt 64 (resistanceOf v).2.1).toInt = (resistanceOf v).2.1 ∧
    (BitVec.ofNat 32 (resistanceOf v).2.2).toNat = (resistanceOf v).2.2) ∧
  (∀ (index v : Nat) (s : State), hostRegister index s = some v →
    (BitVec.ofInt 64 (v : Int)).toInt = (v : Int) ∧ v < 2 ^ 32) ∧
  (∀ s : State, (BitVec.ofInt 64 s.normState.toInt).toInt = s.normState.toInt) ∧
  (BitVec.ofNat 32 1).toNat = 1 ∧ (BitVec.ofNat 32 Config.shuntDen).toNat = 100 ∧
  (BitVec.ofNat 32 Config.curDiv).toNat = 32768

/-! ## The button hold detector (42_button_hold.md) -/

/-- R201: one button step, case by case: unlock, idle, no-op, charge, discharge, hysteresis; nothing but the three button
fields is written. -/
def Obligations.ButtonStepCases : Prop :=
  ∀ s : State,
    let dt := (s.now.toNat + 2 ^ 32 - s.lastSampleTime.toNat) % 2 ^ 32
    let d := if s.btnN = false then min (s.pushDuration.toNat + dt) 100 else s.pushDuration.toNat - (dt + 1)
    (s.btnN = false → s.pushDuration = 0#16 →
      buttonStep s = { s with pushDuration := 1#16, lastSampleTime := s.now }) ∧
    (s.btnN = true → s.pushDuration = 0#16 → buttonStep s = s) ∧
    (s.pushDuration ≠ 0#16 → dt = 0 → buttonStep s = s) ∧
    (s.pushDuration ≠ 0#16 → dt ≠ 0 →
      buttonStep s =
        { s with
          lastSampleTime := s.now
          pushDuration := BitVec.ofNat 16 d
          normState := if d = 100 then true else if d = 0 then false else s.normState })

/-- R200: BTNSAMPLE is one button step whose value is the result; nothing else changes. -/
def Obligations.BtnsampleRunsButtonStep : Prop :=
  ∀ s : State, fatalFlag s.status = false →
    exec .btnsample s =
      .next { buttonStep s with
        resKind := .regval
        resNum := if (buttonStep s).normState then 1#64 else 0#64
        resDen := 1#32
        status := endStatus .ok s.status
        ready := true }

/-- R25: the three button fields are written only by BTNSAMPLE and by CYCLE, and both run the same step: BTNSAMPLE before INIT,
too, and CYCLE once `INIT_DONE` is 1 (R92). -/
def Obligations.ButtonFieldsOnlyByButtonStep : Prop :=
  ∀ (i : Instr) (s t : State), exec i s = .next t →
    (i ≠ .btnsample → i ≠ .cycle →
      t.pushDuration = s.pushDuration ∧ t.normState = s.normState ∧ t.lastSampleTime = s.lastSampleTime) ∧
    (i = .btnsample ∨ i = .cycle → fatalFlag s.status = false → (i = .cycle → initDone s.status = true) →
      t.pushDuration = (buttonStep s).pushDuration ∧ t.normState = (buttonStep s).normState ∧
        t.lastSampleTime = (buttonStep s).lastSampleTime)

/-- R208, R209 item 1: a step turns `NORM_STATE` on only when it leaves 100, and off only when it leaves 0. -/
def Obligations.NormStateFlipsAtTheExtremes : Prop :=
  ∀ s : State,
    (s.normState = false → (buttonStep s).normState = true → (buttonStep s).pushDuration = 100#16) ∧
    (s.normState = true → (buttonStep s).normState = false → (buttonStep s).pushDuration = 0#16)

/-- R209 item 5 (C9): a second step at the same inputs changes nothing. -/
def Obligations.ButtonStepIsIdempotent : Prop :=
  ∀ s : State, buttonStep (buttonStep s) = buttonStep s

/-- R209 item 3, R203: from idle, a continuous press at one-unit samples brings `PUSH_DURATION` to the number of samples, up
to 100, and turns `NORM_STATE` on at the 100th sample. -/
def Obligations.ContinuousPressFlipsAtHundred : Prop :=
  ∀ (s : State) (start : Time) (k : Nat), s.pushDuration = 0#16 → s.normState = false → 1 ≤ k →
    (unitSamples false start k s).pushDuration.toNat = min k 100 ∧
    (unitSamples false start k s).normState = decide (100 ≤ k)

/-- R209 item 4: from 100, a continuous release at one-unit samples subtracts 2 each, and turns `NORM_STATE` off at the 50th
sample. -/
def Obligations.ContinuousReleaseFlipsAtFifty : Prop :=
  ∀ (s : State) (start : Time) (k : Nat), s.pushDuration = 100#16 → s.normState = true →
    start = s.lastSampleTime + 1#32 →
    (unitSamples true start k s).pushDuration.toNat = 100 - 2 * k ∧
    (unitSamples true start k s).normState = decide (k < 50)

/-- R209 item 2, noise rejection: from idle, no sequence of samples whose pressed time sums to less than 99 units turns
`NORM_STATE` on, however often it is interrupted and unlocked again. -/
def Obligations.NoiseNeverFlips : Prop :=
  ∀ (xs : List (Bool × Time)) (s : State), s.pushDuration = 0#16 → s.normState = false → pressedCharge xs s < 99 →
    (samples xs s).normState = false ∧ (samples xs s).pushDuration.toNat ≤ 1 + pressedCharge xs s

/-! ## The resistance calculator and MEASURE (43_resistance.md) -/

/-- R230 with R231's three cases: short, open, and the divider formula; nothing but the result registers changes. (The open
sentinel is the parameter `OPEN_SENTINEL`, negative; its value is the spec's own decision, log 10.) -/
def Obligations.RescalcInvertsDivider : Prop :=
  ∀ (mv : U16) (s : State), fatalFlag s.status = false →
    let v := mv.toNat
    let ends : State := { s with status := endStatus .ok s.status, ready := true }
    (v < 2 →
      exec (.rescalc mv) s = .next { ends with resKind := .resistanceOhm, resNum := 0#64, resDen := 1#32 }) ∧
    (5000 ≤ v →
      exec (.rescalc mv) s =
        .next { ends with resKind := .openCircuit, resNum := BitVec.ofInt 64 Config.openSentinel, resDen := 1#32 }) ∧
    (2 ≤ v → v ≤ 4999 →
      exec (.rescalc mv) s =
        .next { ends with
          resKind := .resistanceOhm
          resNum := BitVec.ofNat 64 (1000 * v)
          resDen := BitVec.ofNat 32 (5016 - v) }) ∧
    Config.openSentinel < 0

/-- R233: for 2 to 4999 mV the denominator lies in [17, 5014], the numerator in [2000, 4999000], and the value in
[2000/5014, 4999000/17]; 5000 to 5015 mV is open. -/
def Obligations.ResistanceRange : Prop :=
  (∀ v : Nat, 2 ≤ v → v ≤ 4999 →
    ∃ n d : Nat, resistanceOf v = (.resistanceOhm, (n : Int), d) ∧ 17 ≤ d ∧ d ≤ 5014 ∧ 2000 ≤ n ∧ n ≤ 4999000 ∧
      (2000 : ℚ) / 5014 ≤ (n : ℚ) / (d : ℚ) ∧ (n : ℚ) / (d : ℚ) ≤ 4999000 / 17) ∧
  ∀ v : Nat, 5000 ≤ v → v ≤ 5015 → (resistanceOf v).1 = .openCircuit

/-- R234: from a forward voltage `5016 * R / (R + 1000)` that is a whole number of mV in [2, 5000), the calculator gives back
`R` exactly. -/
def Obligations.DividerRoundTrip : Prop :=
  ∀ (r : ℚ) (v : Nat), 0 < r → 2 ≤ v → v < 5000 → (v : ℚ) = 5016 * r / (r + 1000) →
    ∃ n d : Nat, resistanceOf v = (.resistanceOhm, (n : Int), d) ∧ (n : ℚ) / (d : ℚ) = r

/-- R236: MEASURE in its two modes; everything but the probe, the result registers and the history stays. -/
def Obligations.MeasureSelectsMode : Prop :=
  ∀ s : State, fatalFlag s.status = false → initDone s.status = true →
    exec .measure s = .next { measuredState s with status := endStatus .ok s.status, ready := true }

/-- R236's corner case: MEASURE on its own can assert `PROBE` while the output is enabled, in a state that meets every
invariant of R37. -/
def Obligations.MeasureCanProbeWhileEnabled : Prop :=
  ∃ s t : State, Inv s ∧ s.gateEnabled = true ∧ s.probe = false ∧ exec .measure s = .next t ∧
    t.probe = true ∧ t.outEn = true

/-! ## The control cycle (44_output_gate.md) -/

/-- R260, R261: a confirmed transition consumes the cycle. Becoming enabled: probe off, output on, indicator, one current
report with the reset flag. Becoming disabled: output off, indicator. -/
def Obligations.CycleTransitions : Prop :=
  ∀ s : State, fatalFlag s.status = false → initDone s.status = true →
    let b := buttonStep s
    (b.normState = true → b.gateEnabled = false →
      exec .cycle s =
        .next { currentReported true
            { b with
              probe := false
              outEn := true
              trace := b.trace ++ [.pin .probe false, .pin .outEn true, .indicator .active] } with
          gateEnabled := true
          status := endStatus .ok s.status
          ready := true }) ∧
    (b.normState = false → b.gateEnabled = true →
      exec .cycle s =
        .next { b with
          outEn := false
          gateEnabled := false
          trace := b.trace ++ [.pin .outEn false, .indicator .inactive]
          status := endStatus .ok s.status
          ready := true })

/-- R262: a cycle without a transition reports the current with no reset flag while enabled, and measures while disabled;
with `ORCH_WHILE_ENABLED = true` the enabled cycle does both. -/
def Obligations.CycleSteadyState : Prop :=
  (∀ s : State, fatalFlag s.status = false → initDone s.status = true →
    let b := buttonStep s
    (b.normState = true → b.gateEnabled = true →
      exec .cycle s =
        .next { currentReported false b with status := endStatus .ok s.status, ready := true }) ∧
    (b.normState = false → b.gateEnabled = false →
      exec .cycle s = .next { measuredState b with status := endStatus .ok s.status, ready := true })) ∧
  ∀ s : State, (buttonStep s).normState = true → (buttonStep s).gateEnabled = true →
    cycleBody true s = measuredState (currentReported false (buttonStep s))

/-- After every CYCLE the output follows the gate, and a CYCLE keeps the probe off while the gate is enabled (R263). The
premises are R37 item 6 and, for the second part, that the probe was off while the gate was enabled before: a MEASURE on its
own breaks that (log 18). -/
def Obligations.CycleKeepsOutputInvariant : Prop :=
  ∀ s t : State, s.outEn = s.gateEnabled → exec .cycle s = .next t →
    t.outEn = t.gateEnabled ∧
    (Config.orchWhileEnabled = false → (s.gateEnabled = true → s.probe = false) →
      t.gateEnabled = true → t.probe = false)

/-! ## Host access (45_host_access.md) -/

/-- R290, R94: RDREG gives the register at its index as it stood before the command, in any state, fatal or not; an index
above 0x07 ends with ILLEGAL_CMD and no other effect. -/
def Obligations.RdregReadsHostRegisters : Prop :=
  ∀ (index : U16) (s : State),
    (index.toNat ≤ 7 →
      exec (.rdreg index) s =
        .next { s with
          resKind := .regval
          resNum := hostIndexValue index.toNat s
          resDen := 1#32
          status := endStatus .ok s.status
          ready := true }) ∧
    (7 < index.toNat →
      exec (.rdreg index) s = .next { s with status := endStatus .illegalCmd s.status, ready := true })

/-- R99: the pseudo-commands and their effects. -/
def Obligations.PseudoCommandsExpand : Prop :=
  (∀ v : U16, setcfg v = .updcfg v 0xFFFF#16 ∧ orcfg v = .updcfg v 0x0000#16) ∧
  psaveOn = .pwrsave true ∧ psaveOff = .pwrsave false ∧ rdstatus = .rdreg 0x00#16 ∧
  ∀ (v : U16) (s : State), fatalFlag s.status = false → initDone s.status = true →
    (∃ t, exec (setcfg v) s = .next t ∧ t.configWord = v) ∧
    (∃ t, exec (orcfg v) s = .next t ∧ t.configWord = s.configWord ||| v) ∧
    (∃ t, exec psaveOn s = .next t ∧
      t.trace = s.trace ++ [.busWr Config.ptrConfig (s.configWord &&& ~~~Config.modeMask) (ackAnswer 0 s)]) ∧
    (∃ t, exec psaveOff s = .next t ∧
      t.trace = s.trace ++ [.busWr Config.ptrConfig s.configWord (ackAnswer 0 s)]) ∧
    (∃ t, exec rdstatus s = .next t ∧ t.resNum = (readStatus s.status).setWidth 64 ∧ t.resDen = 1#32)

/-! ## Whole-machine rules -/

/-- Each register is written only by the commands the spec names for it: the shadow and the flags `INIT_DONE` and `FATAL` by
INIT (R21, R23, R31), `CONFIG_WORD` by UPDCFG (R22), the three button fields by BTNSAMPLE and CYCLE (R25), the gate and
`OUT_EN` by CYCLE (R34), `PROBE` by MEASURE and CYCLE, the result registers not by the four commands that produce no value
(R26), and the reserved bits of `STATUS` by none (R31). -/
def Obligations.RegistersChangeOnlyByTheirCommands : Prop :=
  ∀ (i : Instr) (s t : State), exec i s = .next t →
    ((∀ m sh, i ≠ .init m sh) →
      t.calValue = s.calValue ∧ t.maxCurrentMa = s.maxCurrentMa ∧ t.shuntMohm = s.shuntMohm ∧
        initDone t.status = initDone s.status ∧ fatalFlag t.status = fatalFlag s.status) ∧
    ((∀ v m, i ≠ .updcfg v m) → t.configWord = s.configWord) ∧
    (i ≠ .btnsample → i ≠ .cycle →
      t.pushDuration = s.pushDuration ∧ t.normState = s.normState ∧ t.lastSampleTime = s.lastSampleTime) ∧
    (i ≠ .cycle → t.gateEnabled = s.gateEnabled ∧ t.outEn = s.outEn) ∧
    (i ≠ .measure → i ≠ .cycle → t.probe = s.probe) ∧
    ((∃ m sh, i = .init m sh) ∨ (∃ v m, i = .updcfg v m) ∨ (∃ e, i = .pwrsave e) ∨ i = .reset →
      t.resKind = s.resKind ∧ t.resNum = s.resNum ∧ t.resDen = s.resDen) ∧
    reservedBits t.status = reservedBits s.status ∧
    t.inbox = s.inbox ∧ t.btnN = s.btnN ∧ t.now = s.now

/-- The history only grows, and in what a step adds every read comes right after its register select and the pointer wait
(R63, R69, R70). -/
def Obligations.HistoryGrowsWellFramed : Prop :=
  ∀ s t : State, step s = .next t → ∃ es : List Event, t.trace = s.trace ++ es ∧ wellFramed es = true

/-- No command but INIT looks at an acknowledge (R62, R66, R120): with any other acknowledges still to come, the next state is
the same but for the acknowledges themselves. -/
def Obligations.AcknowledgesIgnoredOutsideInit : Prop :=
  ∀ (i : Instr) (s : State) (acks : List Ack) (n : Nat), (∀ m sh, i ≠ .init m sh) →
    ∃ t u, exec i s = .next t ∧ exec i { s with acks := acks, ackDraws := n } = .next u ∧
      u.forgetAcks = t.forgetAcks

/-- The oracle is unconstrained (R66): any sequence of read values and any sequence of acknowledges is what some chip still
has to answer, in any state of the block. -/
def Obligations.OracleAdmitsEveryAnswer : Prop :=
  ∀ (s : State) (vs : List U16) (as : List Ack),
    let t : State := { s with reads := vs.map (fun v => (highByte v, lowByte v)), acks := as }
    (∀ (k : Nat) (v : U16), vs[k]? = some v → readAnswer k t = v) ∧
    (∀ (k : Nat) (a : Ack), as[k]? = some a → ackAnswer k t = a)

/-- The frames of the bus events (R96): a write is its pointer and its value's two bytes, the most significant first; a
register select is its pointer; a read's two bytes, joined, are the value it returned. (The address byte is the spec's
passage from general knowledge, log 13.) -/
def Obligations.BusFramesAreBigEndian : Prop :=
  (∀ (ptr : Byte) (v : U16) (a : Ack),
    (Event.busWr ptr v a).frame.map Frame.bytes =
      some [Config.busAddr ++ 0#1, ptr, v.extractLsb' 8 8, v.extractLsb' 0 8]) ∧
  (∀ ptr : Byte, (Event.busSel ptr).frame.map Frame.bytes = some [Config.busAddr ++ 0#1, ptr]) ∧
  ∀ (ptr : Byte) (v : U16), ∃ b1 b2 : Byte,
    (Event.busRd ptr v).frame.map Frame.bytes = some [Config.busAddr ++ 1#1, b1, b2] ∧ joinBytes (b1, b2) = v

/-! ## Reset and the invariants (10_state.md) -/

/-- R36, R340: the values after block power-on reset, with no event recorded. -/
def Obligations.ResetValues : Prop :=
  State.reset.calValue = 0#16 ∧ State.reset.configWord = Config.configInit ∧ State.reset.maxCurrentMa = 0#16 ∧
  State.reset.shuntMohm = 0#16 ∧ State.reset.pushDuration = 0#16 ∧ State.reset.normState = false ∧
  State.reset.lastSampleTime = 0#32 ∧ State.reset.gateEnabled = false ∧ State.reset.probe = false ∧
  State.reset.outEn = false ∧ State.reset.resKind = .none ∧ State.reset.resNum = 0#64 ∧ State.reset.resDen = 1#32 ∧
  State.reset.status = 0x0000#16 ∧ State.reset.ready = true ∧ State.reset.trace = []

/-- The invariants hold right after reset (R37). -/
def Obligations.InvariantsHoldAtReset : Prop := Inv State.reset

/-- Every step keeps the invariants, from any state that meets them (R37). -/
def Obligations.EveryStepKeepsInvariants : Prop :=
  ∀ s t : State, Inv s → step s = .next t → Inv t

/-- R37: the invariants hold in every state reachable from power-on, under every host and every chip. -/
def Obligations.InvariantsHoldInReachableStates : Prop :=
  ∀ s : State, Reachable s →
    s.pushDuration.toNat ≤ 100 ∧
    (s.pushDuration = 0#16 → s.normState = false) ∧
    (s.pushDuration = 100#16 → s.normState = true) ∧
    (initDone s.status = true →
      1 ≤ s.maxCurrentMa.toNat ∧ 1 ≤ s.shuntMohm.toNat ∧
      s.calValue.toNat = roundDiv (40960000 * 32768) (s.maxCurrentMa.toNat * s.shuntMohm.toNat) ∧
      1 ≤ roundDiv (40960000 * 32768) (s.maxCurrentMa.toNat * s.shuntMohm.toNat) ∧
      roundDiv (40960000 * 32768) (s.maxCurrentMa.toNat * s.shuntMohm.toNat) ≤ 65535) ∧
    (fatalFlag s.status = true → initDone s.status = false) ∧
    s.outEn = s.gateEnabled
end

