-- ==== Sys2Proof/Laws/Decode.lean ====
section
/-! SUPPORT. The fields of an assembled word, and what the decoder's helpers answer. -/

namespace Sys2Proof

/-! ## Fields -/

/-- Concatenation as arithmetic. -/
theorem toNat_append_add {m n : Nat} (x : BitVec m) (y : BitVec n) :
    (x ++ y).toNat = x.toNat * 2 ^ n + y.toNat := by
  rw [BitVec.toNat_append, ← Nat.shiftLeft_add_eq_or_of_lt y.isLt, Nat.shiftLeft_eq]

/-- The number of an assembled word. -/
theorem assembleWord_toNat (op : Byte) (a b : U16) :
    (assembleWord op a b).toNat = (op.toNat * 2 ^ 16 + a.toNat) * 2 ^ 16 + b.toNat := by
  rw [assembleWord, toNat_append_add, toNat_append_add]

theorem opField_toNat (w : CmdWord) : (opField w).toNat = w.toNat / 2 ^ 32 % 2 ^ 8 := by
  simp [opField, Nat.shiftRight_eq_div_pow]

theorem aField_toNat (w : CmdWord) : (aField w).toNat = w.toNat / 2 ^ 16 % 2 ^ 16 := by
  simp [aField, Nat.shiftRight_eq_div_pow]

theorem bField_toNat (w : CmdWord) : (bField w).toNat = w.toNat % 2 ^ 16 := by
  simp [bField]

@[simp] theorem opField_assembleWord (op : Byte) (a b : U16) : opField (assembleWord op a b) = op := by
  apply BitVec.eq_of_toNat_eq
  rw [opField_toNat, assembleWord_toNat]
  have := op.isLt; have := a.isLt; have := b.isLt
  omega

@[simp] theorem aField_assembleWord (op : Byte) (a b : U16) : aField (assembleWord op a b) = a := by
  apply BitVec.eq_of_toNat_eq
  rw [aField_toNat, assembleWord_toNat]
  have := a.isLt; have := b.isLt
  omega

@[simp] theorem bField_assembleWord (op : Byte) (a b : U16) : bField (assembleWord op a b) = b := by
  apply BitVec.eq_of_toNat_eq
  rw [bField_toNat, assembleWord_toNat]
  have := b.isLt
  omega

/-- Every word is its three fields. -/
theorem assembleWord_fields (w : CmdWord) : assembleWord (opField w) (aField w) (bField w) = w := by
  apply BitVec.eq_of_toNat_eq
  rw [assembleWord_toNat, opField_toNat, aField_toNat, bField_toNat]
  have := w.isLt
  omega

/-- A word is determined by its three fields. -/
theorem word_ext {w v : CmdWord} (ho : opField w = opField v) (ha : aField w = aField v)
    (hb : bField w = bField v) : w = v := by
  rw [← assembleWord_fields w, ← assembleWord_fields v, ho, ha, hb]

/-! ## The decoder's helpers -/

@[simp] theorem decodePlain_zero (i : Instr) : decodePlain 0#16 0#16 i = .ok i := rfl

@[simp] theorem decodeA_zero (i : Instr) : decodeA 0#16 i = .ok i := rfl

/-- What a command with both fields reserved decodes to. -/
theorem decodePlain_ok {a b : U16} {i j : Instr} :
    decodePlain a b i = .ok j ↔ (a = 0#16 ∧ b = 0#16) ∧ i = j := by
  unfold decodePlain
  split <;> simp_all

/-- What a command with `B` reserved decodes to. -/
theorem decodeA_ok {b : U16} {i j : Instr} : decodeA b i = .ok j ↔ b = 0#16 ∧ i = j := by
  unfold decodeA
  split <;> simp_all

/-- What PWRSAVE decodes to. -/
theorem decodePwrsave_ok {a b : U16} {j : Instr} : decodePwrsave a b = .ok j ↔
    (b = 0#16 ∧ a.extractLsb' 1 15 = 0#15) ∧ .pwrsave (a.getLsbD 0) = j := by
  unfold decodePwrsave
  split
  · simp_all
  · split <;> simp_all

@[simp] theorem decodePwrsave_operand (enable : Bool) :
    decodePwrsave (if enable then 1#16 else 0#16) 0#16 = .ok (.pwrsave enable) := by
  cases enable <;> decide

/-- Decoding an assembled word. -/
@[simp] theorem decode_assembleWord (op : Byte) (a b : U16) :
    decode (assembleWord op a b) = decodeFields op.toNat a b := by
  simp only [decode, opField_assembleWord, aField_assembleWord, bField_assembleWord]

end Sys2Proof
end

