-- ==== Sys2Proof/Laws/Flags.lean ====
section
/-! SUPPORT. What each write of a STATUS field does to every field (10_state.md R31), and what the end of a command does (60_exceptions.md R301). -/

namespace Sys2Proof.Machine

/-! ## Bits -/

/-- The bits of `withBit`. -/
theorem getLsbD_withBit (n k : Nat) (b : Bool) (w : U16) (hk : k < 16) :
    (withBit n b w).getLsbD k = if k = n then b else w.getLsbD k := by
  unfold withBit
  cases b <;> by_cases h : k = n
  · subst h; simp [hk]
  · simp [hk, h]; omega
  · subst h; simp [hk]
  · simp [hk, h]; omega

/-- The sixteen bit positions. -/
theorem bit_cases {k : Nat} (hk : k < 16) : k = 0 ∨ k = 1 ∨ k = 2 ∨ k = 3 ∨ k = 4 ∨ k = 5 ∨ k = 6 ∨ k = 7 ∨
    k = 8 ∨ k = 9 ∨ k = 10 ∨ k = 11 ∨ k = 12 ∨ k = 13 ∨ k = 14 ∨ k = 15 := by omega

/-- The bits of `setLastCode`. -/
theorem getLsbD_setLastCode (c : BitVec 4) (w : U16) (k : Nat) (hk : k < 16) :
    (setLastCode c w).getLsbD k = if 4 ≤ k ∧ k < 8 then c.getLsbD (k - 4) else w.getLsbD k := by
  unfold setLastCode
  rcases bit_cases hk with h | h | h | h | h | h | h | h | h | h | h | h | h | h | h | h <;> subst h <;> simp

/-- The bits of `LAST_CODE`. -/
theorem getLsbD_lastCode (w : U16) (k : Nat) (hk : k < 4) : (lastCode w).getLsbD k = w.getLsbD (4 + k) := by
  simp [lastCode, hk]

/-- Two words with the same bits 3 and 15:8 have the same reserved bits. -/
theorem reservedBits_congr {v w : U16} (h : ∀ k, k < 16 → k = 3 ∨ 8 ≤ k → v.getLsbD k = w.getLsbD k) :
    reservedBits v = reservedBits w := by
  apply BitVec.eq_of_getLsbD_eq
  intro k hk
  simp only [reservedBits, BitVec.getLsbD_and]
  by_cases h' : k = 3 ∨ 8 ≤ k
  · rw [h k hk h']
  · have : (0xFF08#16).getLsbD k = false := by
      rcases bit_cases hk with h | h | h | h | h | h | h | h | h | h | h | h | h | h | h | h <;> subst h <;> simp_all
    simp only [this, Bool.and_false]

/-! ## One lemma per field per write -/

@[simp] theorem initDone_setInitDone (b : Bool) (w : U16) : initDone (setInitDone b w) = b := by
  simp [initDone, setInitDone, getLsbD_withBit, -BitVec.getLsbD_eq_getElem]
@[simp] theorem initDone_setFatal (b : Bool) (w : U16) : initDone (setFatal b w) = initDone w := by
  simp [initDone, setFatal, getLsbD_withBit, -BitVec.getLsbD_eq_getElem]
@[simp] theorem initDone_setErrSeen (b : Bool) (w : U16) : initDone (setErrSeen b w) = initDone w := by
  simp [initDone, setErrSeen, getLsbD_withBit, -BitVec.getLsbD_eq_getElem]
@[simp] theorem initDone_setLastCode (c : BitVec 4) (w : U16) : initDone (setLastCode c w) = initDone w := by
  simp [initDone, getLsbD_setLastCode, -BitVec.getLsbD_eq_getElem]
@[simp] theorem fatalFlag_setInitDone (b : Bool) (w : U16) : fatalFlag (setInitDone b w) = fatalFlag w := by
  simp [fatalFlag, setInitDone, getLsbD_withBit, -BitVec.getLsbD_eq_getElem]
@[simp] theorem fatalFlag_setFatal (b : Bool) (w : U16) : fatalFlag (setFatal b w) = b := by
  simp [fatalFlag, setFatal, getLsbD_withBit, -BitVec.getLsbD_eq_getElem]
@[simp] theorem fatalFlag_setErrSeen (b : Bool) (w : U16) : fatalFlag (setErrSeen b w) = fatalFlag w := by
  simp [fatalFlag, setErrSeen, getLsbD_withBit, -BitVec.getLsbD_eq_getElem]
@[simp] theorem fatalFlag_setLastCode (c : BitVec 4) (w : U16) : fatalFlag (setLastCode c w) = fatalFlag w := by
  simp [fatalFlag, getLsbD_setLastCode, -BitVec.getLsbD_eq_getElem]
@[simp] theorem errSeen_setInitDone (b : Bool) (w : U16) : errSeen (setInitDone b w) = errSeen w := by
  simp [errSeen, setInitDone, getLsbD_withBit, -BitVec.getLsbD_eq_getElem]
@[simp] theorem errSeen_setFatal (b : Bool) (w : U16) : errSeen (setFatal b w) = errSeen w := by
  simp [errSeen, setFatal, getLsbD_withBit, -BitVec.getLsbD_eq_getElem]
@[simp] theorem errSeen_setErrSeen (b : Bool) (w : U16) : errSeen (setErrSeen b w) = b := by
  simp [errSeen, setErrSeen, getLsbD_withBit, -BitVec.getLsbD_eq_getElem]
@[simp] theorem errSeen_setLastCode (c : BitVec 4) (w : U16) : errSeen (setLastCode c w) = errSeen w := by
  simp [errSeen, getLsbD_setLastCode, -BitVec.getLsbD_eq_getElem]

@[simp] theorem lastCode_setInitDone (b : Bool) (w : U16) : lastCode (setInitDone b w) = lastCode w := by
  apply BitVec.eq_of_getLsbD_eq
  intro k hk
  rw [getLsbD_lastCode _ _ hk, getLsbD_lastCode _ _ hk, setInitDone, getLsbD_withBit _ _ _ _ (by omega), if_neg (by omega)]

@[simp] theorem lastCode_setFatal (b : Bool) (w : U16) : lastCode (setFatal b w) = lastCode w := by
  apply BitVec.eq_of_getLsbD_eq
  intro k hk
  rw [getLsbD_lastCode _ _ hk, getLsbD_lastCode _ _ hk, setFatal, getLsbD_withBit _ _ _ _ (by omega), if_neg (by omega)]

@[simp] theorem lastCode_setErrSeen (b : Bool) (w : U16) : lastCode (setErrSeen b w) = lastCode w := by
  apply BitVec.eq_of_getLsbD_eq
  intro k hk
  rw [getLsbD_lastCode _ _ hk, getLsbD_lastCode _ _ hk, setErrSeen, getLsbD_withBit _ _ _ _ (by omega), if_neg (by omega)]

@[simp] theorem lastCode_setLastCode (c : BitVec 4) (w : U16) : lastCode (setLastCode c w) = c := by
  apply BitVec.eq_of_getLsbD_eq
  intro k hk
  rw [getLsbD_lastCode _ _ hk, getLsbD_setLastCode _ _ _ (by omega), if_pos (by omega), Nat.add_sub_cancel_left]

@[simp] theorem reservedBits_setInitDone (b : Bool) (w : U16) : reservedBits (setInitDone b w) = reservedBits w :=
  reservedBits_congr fun k hk h => by rw [setInitDone, getLsbD_withBit _ _ _ _ hk, if_neg (by omega)]

@[simp] theorem reservedBits_setFatal (b : Bool) (w : U16) : reservedBits (setFatal b w) = reservedBits w :=
  reservedBits_congr fun k hk h => by rw [setFatal, getLsbD_withBit _ _ _ _ hk, if_neg (by omega)]

@[simp] theorem reservedBits_setErrSeen (b : Bool) (w : U16) : reservedBits (setErrSeen b w) = reservedBits w :=
  reservedBits_congr fun k hk h => by rw [setErrSeen, getLsbD_withBit _ _ _ _ hk, if_neg (by omega)]

@[simp] theorem reservedBits_setLastCode (c : BitVec 4) (w : U16) : reservedBits (setLastCode c w) = reservedBits w :=
  reservedBits_congr fun k hk h => by rw [getLsbD_setLastCode _ _ _ hk, if_neg (by omega)]

/-! ## The end of a command (R301) -/

@[simp] theorem initDone_endStatus (c : StatusCode) (w : U16) : initDone (endStatus c w) = initDone w := by
  unfold endStatus; split <;> simp

@[simp] theorem fatalFlag_endStatus (c : StatusCode) (w : U16) : fatalFlag (endStatus c w) = fatalFlag w := by
  unfold endStatus; split <;> simp

@[simp] theorem errSeen_endStatus (c : StatusCode) (w : U16) :
    errSeen (endStatus c w) = (errSeen w || decide (c ≠ .ok)) := by
  unfold endStatus; split <;> simp_all

@[simp] theorem lastCode_endStatus (c : StatusCode) (w : U16) : lastCode (endStatus c w) = c.code := by
  unfold endStatus; split <;> simp

@[simp] theorem reservedBits_endStatus (c : StatusCode) (w : U16) :
    reservedBits (endStatus c w) = reservedBits w := by
  unfold endStatus; split <;> simp

/-- Distinct status codes have distinct numbers (R300). -/
theorem code_injective {c d : StatusCode} (h : c.code = d.code) : c = d := by
  cases c <;> cases d <;> first | rfl | exact absurd h (by decide)

end Sys2Proof.Machine
end

