-- ==== Sys2Proof/Laws/State.lean ====
section
/-! SUPPORT. One lemma per field per named update of the state, each true by rfl, so that no proof unfolds a record update. -/

namespace Sys2Proof.Machine

/-! ## record -/

@[simp] theorem record_calValue (e : Event) (s : State) : (record e s).calValue = s.calValue := rfl
@[simp] theorem record_configWord (e : Event) (s : State) : (record e s).configWord = s.configWord := rfl
@[simp] theorem record_maxCurrentMa (e : Event) (s : State) : (record e s).maxCurrentMa = s.maxCurrentMa := rfl
@[simp] theorem record_shuntMohm (e : Event) (s : State) : (record e s).shuntMohm = s.shuntMohm := rfl
@[simp] theorem record_pushDuration (e : Event) (s : State) : (record e s).pushDuration = s.pushDuration := rfl
@[simp] theorem record_normState (e : Event) (s : State) : (record e s).normState = s.normState := rfl
@[simp] theorem record_lastSampleTime (e : Event) (s : State) : (record e s).lastSampleTime = s.lastSampleTime := rfl
@[simp] theorem record_gateEnabled (e : Event) (s : State) : (record e s).gateEnabled = s.gateEnabled := rfl
@[simp] theorem record_probe (e : Event) (s : State) : (record e s).probe = s.probe := rfl
@[simp] theorem record_outEn (e : Event) (s : State) : (record e s).outEn = s.outEn := rfl
@[simp] theorem record_resKind (e : Event) (s : State) : (record e s).resKind = s.resKind := rfl
@[simp] theorem record_resNum (e : Event) (s : State) : (record e s).resNum = s.resNum := rfl
@[simp] theorem record_resDen (e : Event) (s : State) : (record e s).resDen = s.resDen := rfl
@[simp] theorem record_status (e : Event) (s : State) : (record e s).status = s.status := rfl
@[simp] theorem record_ready (e : Event) (s : State) : (record e s).ready = s.ready := rfl
@[simp] theorem record_btnN (e : Event) (s : State) : (record e s).btnN = s.btnN := rfl
@[simp] theorem record_now (e : Event) (s : State) : (record e s).now = s.now := rfl
@[simp] theorem record_inbox (e : Event) (s : State) : (record e s).inbox = s.inbox := rfl
@[simp] theorem record_reads (e : Event) (s : State) : (record e s).reads = s.reads := rfl
@[simp] theorem record_acks (e : Event) (s : State) : (record e s).acks = s.acks := rfl
@[simp] theorem record_readDraws (e : Event) (s : State) : (record e s).readDraws = s.readDraws := rfl
@[simp] theorem record_ackDraws (e : Event) (s : State) : (record e s).ackDraws = s.ackDraws := rfl
@[simp] theorem record_trace (e : Event) (s : State) : (record e s).trace = s.trace ++ [e] := rfl

/-! ## delay -/

@[simp] theorem delay_calValue (t : Wait) (s : State) : (delay t s).calValue = s.calValue := rfl
@[simp] theorem delay_configWord (t : Wait) (s : State) : (delay t s).configWord = s.configWord := rfl
@[simp] theorem delay_maxCurrentMa (t : Wait) (s : State) : (delay t s).maxCurrentMa = s.maxCurrentMa := rfl
@[simp] theorem delay_shuntMohm (t : Wait) (s : State) : (delay t s).shuntMohm = s.shuntMohm := rfl
@[simp] theorem delay_pushDuration (t : Wait) (s : State) : (delay t s).pushDuration = s.pushDuration := rfl
@[simp] theorem delay_normState (t : Wait) (s : State) : (delay t s).normState = s.normState := rfl
@[simp] theorem delay_lastSampleTime (t : Wait) (s : State) : (delay t s).lastSampleTime = s.lastSampleTime := rfl
@[simp] theorem delay_gateEnabled (t : Wait) (s : State) : (delay t s).gateEnabled = s.gateEnabled := rfl
@[simp] theorem delay_probe (t : Wait) (s : State) : (delay t s).probe = s.probe := rfl
@[simp] theorem delay_outEn (t : Wait) (s : State) : (delay t s).outEn = s.outEn := rfl
@[simp] theorem delay_resKind (t : Wait) (s : State) : (delay t s).resKind = s.resKind := rfl
@[simp] theorem delay_resNum (t : Wait) (s : State) : (delay t s).resNum = s.resNum := rfl
@[simp] theorem delay_resDen (t : Wait) (s : State) : (delay t s).resDen = s.resDen := rfl
@[simp] theorem delay_status (t : Wait) (s : State) : (delay t s).status = s.status := rfl
@[simp] theorem delay_ready (t : Wait) (s : State) : (delay t s).ready = s.ready := rfl
@[simp] theorem delay_btnN (t : Wait) (s : State) : (delay t s).btnN = s.btnN := rfl
@[simp] theorem delay_now (t : Wait) (s : State) : (delay t s).now = s.now := rfl
@[simp] theorem delay_inbox (t : Wait) (s : State) : (delay t s).inbox = s.inbox := rfl
@[simp] theorem delay_reads (t : Wait) (s : State) : (delay t s).reads = s.reads := rfl
@[simp] theorem delay_acks (t : Wait) (s : State) : (delay t s).acks = s.acks := rfl
@[simp] theorem delay_readDraws (t : Wait) (s : State) : (delay t s).readDraws = s.readDraws := rfl
@[simp] theorem delay_ackDraws (t : Wait) (s : State) : (delay t s).ackDraws = s.ackDraws := rfl
@[simp] theorem delay_trace (t : Wait) (s : State) : (delay t s).trace = s.trace ++ [.delay t] := rfl

/-! ## takeReads -/

@[simp] theorem takeReads_calValue (k : Nat) (s : State) : (takeReads k s).calValue = s.calValue := rfl
@[simp] theorem takeReads_configWord (k : Nat) (s : State) : (takeReads k s).configWord = s.configWord := rfl
@[simp] theorem takeReads_maxCurrentMa (k : Nat) (s : State) : (takeReads k s).maxCurrentMa = s.maxCurrentMa := rfl
@[simp] theorem takeReads_shuntMohm (k : Nat) (s : State) : (takeReads k s).shuntMohm = s.shuntMohm := rfl
@[simp] theorem takeReads_pushDuration (k : Nat) (s : State) : (takeReads k s).pushDuration = s.pushDuration := rfl
@[simp] theorem takeReads_normState (k : Nat) (s : State) : (takeReads k s).normState = s.normState := rfl
@[simp] theorem takeReads_lastSampleTime (k : Nat) (s : State) : (takeReads k s).lastSampleTime = s.lastSampleTime := rfl
@[simp] theorem takeReads_gateEnabled (k : Nat) (s : State) : (takeReads k s).gateEnabled = s.gateEnabled := rfl
@[simp] theorem takeReads_probe (k : Nat) (s : State) : (takeReads k s).probe = s.probe := rfl
@[simp] theorem takeReads_outEn (k : Nat) (s : State) : (takeReads k s).outEn = s.outEn := rfl
@[simp] theorem takeReads_resKind (k : Nat) (s : State) : (takeReads k s).resKind = s.resKind := rfl
@[simp] theorem takeReads_resNum (k : Nat) (s : State) : (takeReads k s).resNum = s.resNum := rfl
@[simp] theorem takeReads_resDen (k : Nat) (s : State) : (takeReads k s).resDen = s.resDen := rfl
@[simp] theorem takeReads_status (k : Nat) (s : State) : (takeReads k s).status = s.status := rfl
@[simp] theorem takeReads_ready (k : Nat) (s : State) : (takeReads k s).ready = s.ready := rfl
@[simp] theorem takeReads_btnN (k : Nat) (s : State) : (takeReads k s).btnN = s.btnN := rfl
@[simp] theorem takeReads_now (k : Nat) (s : State) : (takeReads k s).now = s.now := rfl
@[simp] theorem takeReads_inbox (k : Nat) (s : State) : (takeReads k s).inbox = s.inbox := rfl
@[simp] theorem takeReads_reads (k : Nat) (s : State) : (takeReads k s).reads = s.reads.drop k := rfl
@[simp] theorem takeReads_acks (k : Nat) (s : State) : (takeReads k s).acks = s.acks := rfl
@[simp] theorem takeReads_readDraws (k : Nat) (s : State) :
    (takeReads k s).readDraws = s.readDraws + (k - s.reads.length) := rfl
@[simp] theorem takeReads_ackDraws (k : Nat) (s : State) : (takeReads k s).ackDraws = s.ackDraws := rfl
@[simp] theorem takeReads_trace (k : Nat) (s : State) : (takeReads k s).trace = s.trace := rfl

/-! ## takeAcks -/

@[simp] theorem takeAcks_calValue (k : Nat) (s : State) : (takeAcks k s).calValue = s.calValue := rfl
@[simp] theorem takeAcks_configWord (k : Nat) (s : State) : (takeAcks k s).configWord = s.configWord := rfl
@[simp] theorem takeAcks_maxCurrentMa (k : Nat) (s : State) : (takeAcks k s).maxCurrentMa = s.maxCurrentMa := rfl
@[simp] theorem takeAcks_shuntMohm (k : Nat) (s : State) : (takeAcks k s).shuntMohm = s.shuntMohm := rfl
@[simp] theorem takeAcks_pushDuration (k : Nat) (s : State) : (takeAcks k s).pushDuration = s.pushDuration := rfl
@[simp] theorem takeAcks_normState (k : Nat) (s : State) : (takeAcks k s).normState = s.normState := rfl
@[simp] theorem takeAcks_lastSampleTime (k : Nat) (s : State) : (takeAcks k s).lastSampleTime = s.lastSampleTime := rfl
@[simp] theorem takeAcks_gateEnabled (k : Nat) (s : State) : (takeAcks k s).gateEnabled = s.gateEnabled := rfl
@[simp] theorem takeAcks_probe (k : Nat) (s : State) : (takeAcks k s).probe = s.probe := rfl
@[simp] theorem takeAcks_outEn (k : Nat) (s : State) : (takeAcks k s).outEn = s.outEn := rfl
@[simp] theorem takeAcks_resKind (k : Nat) (s : State) : (takeAcks k s).resKind = s.resKind := rfl
@[simp] theorem takeAcks_resNum (k : Nat) (s : State) : (takeAcks k s).resNum = s.resNum := rfl
@[simp] theorem takeAcks_resDen (k : Nat) (s : State) : (takeAcks k s).resDen = s.resDen := rfl
@[simp] theorem takeAcks_status (k : Nat) (s : State) : (takeAcks k s).status = s.status := rfl
@[simp] theorem takeAcks_ready (k : Nat) (s : State) : (takeAcks k s).ready = s.ready := rfl
@[simp] theorem takeAcks_btnN (k : Nat) (s : State) : (takeAcks k s).btnN = s.btnN := rfl
@[simp] theorem takeAcks_now (k : Nat) (s : State) : (takeAcks k s).now = s.now := rfl
@[simp] theorem takeAcks_inbox (k : Nat) (s : State) : (takeAcks k s).inbox = s.inbox := rfl
@[simp] theorem takeAcks_reads (k : Nat) (s : State) : (takeAcks k s).reads = s.reads := rfl
@[simp] theorem takeAcks_acks (k : Nat) (s : State) : (takeAcks k s).acks = s.acks.drop k := rfl
@[simp] theorem takeAcks_readDraws (k : Nat) (s : State) : (takeAcks k s).readDraws = s.readDraws := rfl
@[simp] theorem takeAcks_ackDraws (k : Nat) (s : State) :
    (takeAcks k s).ackDraws = s.ackDraws + (k - s.acks.length) := rfl
@[simp] theorem takeAcks_trace (k : Nat) (s : State) : (takeAcks k s).trace = s.trace := rfl

/-! ## report -/

@[simp] theorem report_calValue (kind : ReportKind) (n : Int) (d : Nat) (r : Bool) (s : State) :
    (report kind n d r s).calValue = s.calValue := rfl
@[simp] theorem report_configWord (kind : ReportKind) (n : Int) (d : Nat) (r : Bool) (s : State) :
    (report kind n d r s).configWord = s.configWord := rfl
@[simp] theorem report_maxCurrentMa (kind : ReportKind) (n : Int) (d : Nat) (r : Bool) (s : State) :
    (report kind n d r s).maxCurrentMa = s.maxCurrentMa := rfl
@[simp] theorem report_shuntMohm (kind : ReportKind) (n : Int) (d : Nat) (r : Bool) (s : State) :
    (report kind n d r s).shuntMohm = s.shuntMohm := rfl
@[simp] theorem report_pushDuration (kind : ReportKind) (n : Int) (d : Nat) (r : Bool) (s : State) :
    (report kind n d r s).pushDuration = s.pushDuration := rfl
@[simp] theorem report_normState (kind : ReportKind) (n : Int) (d : Nat) (r : Bool) (s : State) :
    (report kind n d r s).normState = s.normState := rfl
@[simp] theorem report_lastSampleTime (kind : ReportKind) (n : Int) (d : Nat) (r : Bool) (s : State) :
    (report kind n d r s).lastSampleTime = s.lastSampleTime := rfl
@[simp] theorem report_gateEnabled (kind : ReportKind) (n : Int) (d : Nat) (r : Bool) (s : State) :
    (report kind n d r s).gateEnabled = s.gateEnabled := rfl
@[simp] theorem report_probe (kind : ReportKind) (n : Int) (d : Nat) (r : Bool) (s : State) :
    (report kind n d r s).probe = s.probe := rfl
@[simp] theorem report_outEn (kind : ReportKind) (n : Int) (d : Nat) (r : Bool) (s : State) :
    (report kind n d r s).outEn = s.outEn := rfl
@[simp] theorem report_resKind (kind : ReportKind) (n : Int) (d : Nat) (r : Bool) (s : State) :
    (report kind n d r s).resKind = s.resKind := rfl
@[simp] theorem report_resNum (kind : ReportKind) (n : Int) (d : Nat) (r : Bool) (s : State) :
    (report kind n d r s).resNum = s.resNum := rfl
@[simp] theorem report_resDen (kind : ReportKind) (n : Int) (d : Nat) (r : Bool) (s : State) :
    (report kind n d r s).resDen = s.resDen := rfl
@[simp] theorem report_status (kind : ReportKind) (n : Int) (d : Nat) (r : Bool) (s : State) :
    (report kind n d r s).status = s.status := rfl
@[simp] theorem report_ready (kind : ReportKind) (n : Int) (d : Nat) (r : Bool) (s : State) :
    (report kind n d r s).ready = s.ready := rfl
@[simp] theorem report_btnN (kind : ReportKind) (n : Int) (d : Nat) (r : Bool) (s : State) :
    (report kind n d r s).btnN = s.btnN := rfl
@[simp] theorem report_now (kind : ReportKind) (n : Int) (d : Nat) (r : Bool) (s : State) :
    (report kind n d r s).now = s.now := rfl
@[simp] theorem report_inbox (kind : ReportKind) (n : Int) (d : Nat) (r : Bool) (s : State) :
    (report kind n d r s).inbox = s.inbox := rfl
@[simp] theorem report_reads (kind : ReportKind) (n : Int) (d : Nat) (r : Bool) (s : State) :
    (report kind n d r s).reads = s.reads := rfl
@[simp] theorem report_acks (kind : ReportKind) (n : Int) (d : Nat) (r : Bool) (s : State) :
    (report kind n d r s).acks = s.acks := rfl
@[simp] theorem report_readDraws (kind : ReportKind) (n : Int) (d : Nat) (r : Bool) (s : State) :
    (report kind n d r s).readDraws = s.readDraws := rfl
@[simp] theorem report_ackDraws (kind : ReportKind) (n : Int) (d : Nat) (r : Bool) (s : State) :
    (report kind n d r s).ackDraws = s.ackDraws := rfl
@[simp] theorem report_trace (kind : ReportKind) (n : Int) (d : Nat) (r : Bool) (s : State) :
    (report kind n d r s).trace = s.trace ++ [.report kind (BitVec.ofInt 64 n) (BitVec.ofNat 32 d) r] := rfl

/-! ## indicator -/

@[simp] theorem indicator_calValue (c : Color) (s : State) : (indicator c s).calValue = s.calValue := rfl
@[simp] theorem indicator_configWord (c : Color) (s : State) : (indicator c s).configWord = s.configWord := rfl
@[simp] theorem indicator_maxCurrentMa (c : Color) (s : State) : (indicator c s).maxCurrentMa = s.maxCurrentMa := rfl
@[simp] theorem indicator_shuntMohm (c : Color) (s : State) : (indicator c s).shuntMohm = s.shuntMohm := rfl
@[simp] theorem indicator_pushDuration (c : Color) (s : State) : (indicator c s).pushDuration = s.pushDuration := rfl
@[simp] theorem indicator_normState (c : Color) (s : State) : (indicator c s).normState = s.normState := rfl
@[simp] theorem indicator_lastSampleTime (c : Color) (s : State) : (indicator c s).lastSampleTime = s.lastSampleTime := rfl
@[simp] theorem indicator_gateEnabled (c : Color) (s : State) : (indicator c s).gateEnabled = s.gateEnabled := rfl
@[simp] theorem indicator_probe (c : Color) (s : State) : (indicator c s).probe = s.probe := rfl
@[simp] theorem indicator_outEn (c : Color) (s : State) : (indicator c s).outEn = s.outEn := rfl
@[simp] theorem indicator_resKind (c : Color) (s : State) : (indicator c s).resKind = s.resKind := rfl
@[simp] theorem indicator_resNum (c : Color) (s : State) : (indicator c s).resNum = s.resNum := rfl
@[simp] theorem indicator_resDen (c : Color) (s : State) : (indicator c s).resDen = s.resDen := rfl
@[simp] theorem indicator_status (c : Color) (s : State) : (indicator c s).status = s.status := rfl
@[simp] theorem indicator_ready (c : Color) (s : State) : (indicator c s).ready = s.ready := rfl
@[simp] theorem indicator_btnN (c : Color) (s : State) : (indicator c s).btnN = s.btnN := rfl
@[simp] theorem indicator_now (c : Color) (s : State) : (indicator c s).now = s.now := rfl
@[simp] theorem indicator_inbox (c : Color) (s : State) : (indicator c s).inbox = s.inbox := rfl
@[simp] theorem indicator_reads (c : Color) (s : State) : (indicator c s).reads = s.reads := rfl
@[simp] theorem indicator_acks (c : Color) (s : State) : (indicator c s).acks = s.acks := rfl
@[simp] theorem indicator_readDraws (c : Color) (s : State) : (indicator c s).readDraws = s.readDraws := rfl
@[simp] theorem indicator_ackDraws (c : Color) (s : State) : (indicator c s).ackDraws = s.ackDraws := rfl
@[simp] theorem indicator_trace (c : Color) (s : State) : (indicator c s).trace = s.trace ++ [.indicator c] := rfl

/-! ## setResult -/

@[simp] theorem setResult_calValue (kind : ResultKind) (n : Int) (d : Nat) (s : State) :
    (setResult kind n d s).calValue = s.calValue := rfl
@[simp] theorem setResult_configWord (kind : ResultKind) (n : Int) (d : Nat) (s : State) :
    (setResult kind n d s).configWord = s.configWord := rfl
@[simp] theorem setResult_maxCurrentMa (kind : ResultKind) (n : Int) (d : Nat) (s : State) :
    (setResult kind n d s).maxCurrentMa = s.maxCurrentMa := rfl
@[simp] theorem setResult_shuntMohm (kind : ResultKind) (n : Int) (d : Nat) (s : State) :
    (setResult kind n d s).shuntMohm = s.shuntMohm := rfl
@[simp] theorem setResult_pushDuration (kind : ResultKind) (n : Int) (d : Nat) (s : State) :
    (setResult kind n d s).pushDuration = s.pushDuration := rfl
@[simp] theorem setResult_normState (kind : ResultKind) (n : Int) (d : Nat) (s : State) :
    (setResult kind n d s).normState = s.normState := rfl
@[simp] theorem setResult_lastSampleTime (kind : ResultKind) (n : Int) (d : Nat) (s : State) :
    (setResult kind n d s).lastSampleTime = s.lastSampleTime := rfl
@[simp] theorem setResult_gateEnabled (kind : ResultKind) (n : Int) (d : Nat) (s : State) :
    (setResult kind n d s).gateEnabled = s.gateEnabled := rfl
@[simp] theorem setResult_probe (kind : ResultKind) (n : Int) (d : Nat) (s : State) :
    (setResult kind n d s).probe = s.probe := rfl
@[simp] theorem setResult_outEn (kind : ResultKind) (n : Int) (d : Nat) (s : State) :
    (setResult kind n d s).outEn = s.outEn := rfl
@[simp] theorem setResult_resKind (kind : ResultKind) (n : Int) (d : Nat) (s : State) :
    (setResult kind n d s).resKind = kind := rfl
@[simp] theorem setResult_resNum (kind : ResultKind) (n : Int) (d : Nat) (s : State) :
    (setResult kind n d s).resNum = BitVec.ofInt 64 n := rfl
@[simp] theorem setResult_resDen (kind : ResultKind) (n : Int) (d : Nat) (s : State) :
    (setResult kind n d s).resDen = BitVec.ofNat 32 d := rfl
@[simp] theorem setResult_status (kind : ResultKind) (n : Int) (d : Nat) (s : State) :
    (setResult kind n d s).status = s.status := rfl
@[simp] theorem setResult_ready (kind : ResultKind) (n : Int) (d : Nat) (s : State) :
    (setResult kind n d s).ready = s.ready := rfl
@[simp] theorem setResult_btnN (kind : ResultKind) (n : Int) (d : Nat) (s : State) :
    (setResult kind n d s).btnN = s.btnN := rfl
@[simp] theorem setResult_now (kind : ResultKind) (n : Int) (d : Nat) (s : State) :
    (setResult kind n d s).now = s.now := rfl
@[simp] theorem setResult_inbox (kind : ResultKind) (n : Int) (d : Nat) (s : State) :
    (setResult kind n d s).inbox = s.inbox := rfl
@[simp] theorem setResult_reads (kind : ResultKind) (n : Int) (d : Nat) (s : State) :
    (setResult kind n d s).reads = s.reads := rfl
@[simp] theorem setResult_acks (kind : ResultKind) (n : Int) (d : Nat) (s : State) :
    (setResult kind n d s).acks = s.acks := rfl
@[simp] theorem setResult_readDraws (kind : ResultKind) (n : Int) (d : Nat) (s : State) :
    (setResult kind n d s).readDraws = s.readDraws := rfl
@[simp] theorem setResult_ackDraws (kind : ResultKind) (n : Int) (d : Nat) (s : State) :
    (setResult kind n d s).ackDraws = s.ackDraws := rfl
@[simp] theorem setResult_trace (kind : ResultKind) (n : Int) (d : Nat) (s : State) :
    (setResult kind n d s).trace = s.trace := rfl

/-! ## finish -/

@[simp] theorem finish_calValue (c : StatusCode) (s : State) : (finish c s).calValue = s.calValue := rfl
@[simp] theorem finish_configWord (c : StatusCode) (s : State) : (finish c s).configWord = s.configWord := rfl
@[simp] theorem finish_maxCurrentMa (c : StatusCode) (s : State) : (finish c s).maxCurrentMa = s.maxCurrentMa := rfl
@[simp] theorem finish_shuntMohm (c : StatusCode) (s : State) : (finish c s).shuntMohm = s.shuntMohm := rfl
@[simp] theorem finish_pushDuration (c : StatusCode) (s : State) : (finish c s).pushDuration = s.pushDuration := rfl
@[simp] theorem finish_normState (c : StatusCode) (s : State) : (finish c s).normState = s.normState := rfl
@[simp] theorem finish_lastSampleTime (c : StatusCode) (s : State) : (finish c s).lastSampleTime = s.lastSampleTime := rfl
@[simp] theorem finish_gateEnabled (c : StatusCode) (s : State) : (finish c s).gateEnabled = s.gateEnabled := rfl
@[simp] theorem finish_probe (c : StatusCode) (s : State) : (finish c s).probe = s.probe := rfl
@[simp] theorem finish_outEn (c : StatusCode) (s : State) : (finish c s).outEn = s.outEn := rfl
@[simp] theorem finish_resKind (c : StatusCode) (s : State) : (finish c s).resKind = s.resKind := rfl
@[simp] theorem finish_resNum (c : StatusCode) (s : State) : (finish c s).resNum = s.resNum := rfl
@[simp] theorem finish_resDen (c : StatusCode) (s : State) : (finish c s).resDen = s.resDen := rfl
@[simp] theorem finish_status (c : StatusCode) (s : State) : (finish c s).status = endStatus c s.status := rfl
@[simp] theorem finish_ready (c : StatusCode) (s : State) : (finish c s).ready = true := rfl
@[simp] theorem finish_btnN (c : StatusCode) (s : State) : (finish c s).btnN = s.btnN := rfl
@[simp] theorem finish_now (c : StatusCode) (s : State) : (finish c s).now = s.now := rfl
@[simp] theorem finish_inbox (c : StatusCode) (s : State) : (finish c s).inbox = s.inbox := rfl
@[simp] theorem finish_reads (c : StatusCode) (s : State) : (finish c s).reads = s.reads := rfl
@[simp] theorem finish_acks (c : StatusCode) (s : State) : (finish c s).acks = s.acks := rfl
@[simp] theorem finish_readDraws (c : StatusCode) (s : State) : (finish c s).readDraws = s.readDraws := rfl
@[simp] theorem finish_ackDraws (c : StatusCode) (s : State) : (finish c s).ackDraws = s.ackDraws := rfl
@[simp] theorem finish_trace (c : StatusCode) (s : State) : (finish c s).trace = s.trace := rfl

/-! ## accept -/

@[simp] theorem accept_calValue (p : Presentation) (rest : List Presentation) (s : State) :
    (accept p rest s).calValue = s.calValue := rfl
@[simp] theorem accept_configWord (p : Presentation) (rest : List Presentation) (s : State) :
    (accept p rest s).configWord = s.configWord := rfl
@[simp] theorem accept_maxCurrentMa (p : Presentation) (rest : List Presentation) (s : State) :
    (accept p rest s).maxCurrentMa = s.maxCurrentMa := rfl
@[simp] theorem accept_shuntMohm (p : Presentation) (rest : List Presentation) (s : State) :
    (accept p rest s).shuntMohm = s.shuntMohm := rfl
@[simp] theorem accept_pushDuration (p : Presentation) (rest : List Presentation) (s : State) :
    (accept p rest s).pushDuration = s.pushDuration := rfl
@[simp] theorem accept_normState (p : Presentation) (rest : List Presentation) (s : State) :
    (accept p rest s).normState = s.normState := rfl
@[simp] theorem accept_lastSampleTime (p : Presentation) (rest : List Presentation) (s : State) :
    (accept p rest s).lastSampleTime = s.lastSampleTime := rfl
@[simp] theorem accept_gateEnabled (p : Presentation) (rest : List Presentation) (s : State) :
    (accept p rest s).gateEnabled = s.gateEnabled := rfl
@[simp] theorem accept_probe (p : Presentation) (rest : List Presentation) (s : State) :
    (accept p rest s).probe = s.probe := rfl
@[simp] theorem accept_outEn (p : Presentation) (rest : List Presentation) (s : State) :
    (accept p rest s).outEn = s.outEn := rfl
@[simp] theorem accept_resKind (p : Presentation) (rest : List Presentation) (s : State) :
    (accept p rest s).resKind = s.resKind := rfl
@[simp] theorem accept_resNum (p : Presentation) (rest : List Presentation) (s : State) :
    (accept p rest s).resNum = s.resNum := rfl
@[simp] theorem accept_resDen (p : Presentation) (rest : List Presentation) (s : State) :
    (accept p rest s).resDen = s.resDen := rfl
@[simp] theorem accept_status (p : Presentation) (rest : List Presentation) (s : State) :
    (accept p rest s).status = s.status := rfl
@[simp] theorem accept_ready (p : Presentation) (rest : List Presentation) (s : State) :
    (accept p rest s).ready = false := rfl
@[simp] theorem accept_btnN (p : Presentation) (rest : List Presentation) (s : State) :
    (accept p rest s).btnN = p.btnN := rfl
@[simp] theorem accept_now (p : Presentation) (rest : List Presentation) (s : State) :
    (accept p rest s).now = p.now := rfl
@[simp] theorem accept_inbox (p : Presentation) (rest : List Presentation) (s : State) :
    (accept p rest s).inbox = rest := rfl
@[simp] theorem accept_reads (p : Presentation) (rest : List Presentation) (s : State) :
    (accept p rest s).reads = s.reads := rfl
@[simp] theorem accept_acks (p : Presentation) (rest : List Presentation) (s : State) :
    (accept p rest s).acks = s.acks := rfl
@[simp] theorem accept_readDraws (p : Presentation) (rest : List Presentation) (s : State) :
    (accept p rest s).readDraws = s.readDraws := rfl
@[simp] theorem accept_ackDraws (p : Presentation) (rest : List Presentation) (s : State) :
    (accept p rest s).ackDraws = s.ackDraws := rfl
@[simp] theorem accept_trace (p : Presentation) (rest : List Presentation) (s : State) :
    (accept p rest s).trace = s.trace := rfl

/-! ## presentWord -/

@[simp] theorem presentWord_calValue (w : CmdWord) (s : State) : (presentWord w s).calValue = s.calValue := rfl
@[simp] theorem presentWord_configWord (w : CmdWord) (s : State) : (presentWord w s).configWord = s.configWord := rfl
@[simp] theorem presentWord_maxCurrentMa (w : CmdWord) (s : State) : (presentWord w s).maxCurrentMa = s.maxCurrentMa := rfl
@[simp] theorem presentWord_shuntMohm (w : CmdWord) (s : State) : (presentWord w s).shuntMohm = s.shuntMohm := rfl
@[simp] theorem presentWord_pushDuration (w : CmdWord) (s : State) : (presentWord w s).pushDuration = s.pushDuration := rfl
@[simp] theorem presentWord_normState (w : CmdWord) (s : State) : (presentWord w s).normState = s.normState := rfl
@[simp] theorem presentWord_lastSampleTime (w : CmdWord) (s : State) : (presentWord w s).lastSampleTime = s.lastSampleTime := rfl
@[simp] theorem presentWord_gateEnabled (w : CmdWord) (s : State) : (presentWord w s).gateEnabled = s.gateEnabled := rfl
@[simp] theorem presentWord_probe (w : CmdWord) (s : State) : (presentWord w s).probe = s.probe := rfl
@[simp] theorem presentWord_outEn (w : CmdWord) (s : State) : (presentWord w s).outEn = s.outEn := rfl
@[simp] theorem presentWord_resKind (w : CmdWord) (s : State) : (presentWord w s).resKind = s.resKind := rfl
@[simp] theorem presentWord_resNum (w : CmdWord) (s : State) : (presentWord w s).resNum = s.resNum := rfl
@[simp] theorem presentWord_resDen (w : CmdWord) (s : State) : (presentWord w s).resDen = s.resDen := rfl
@[simp] theorem presentWord_status (w : CmdWord) (s : State) : (presentWord w s).status = s.status := rfl
@[simp] theorem presentWord_ready (w : CmdWord) (s : State) : (presentWord w s).ready = true := rfl
@[simp] theorem presentWord_btnN (w : CmdWord) (s : State) : (presentWord w s).btnN = s.btnN := rfl
@[simp] theorem presentWord_now (w : CmdWord) (s : State) : (presentWord w s).now = s.now := rfl
@[simp] theorem presentWord_inbox (w : CmdWord) (s : State) :
    (presentWord w s).inbox = ⟨w, s.btnN, s.now⟩ :: s.inbox := rfl
@[simp] theorem presentWord_reads (w : CmdWord) (s : State) : (presentWord w s).reads = s.reads := rfl
@[simp] theorem presentWord_acks (w : CmdWord) (s : State) : (presentWord w s).acks = s.acks := rfl
@[simp] theorem presentWord_readDraws (w : CmdWord) (s : State) : (presentWord w s).readDraws = s.readDraws := rfl
@[simp] theorem presentWord_ackDraws (w : CmdWord) (s : State) : (presentWord w s).ackDraws = s.ackDraws := rfl
@[simp] theorem presentWord_trace (w : CmdWord) (s : State) : (presentWord w s).trace = s.trace := rfl

/-! ## writeShadow -/

@[simp] theorem writeShadow_calValue (m sh : U16) (s : State) :
    (writeShadow m sh s).calValue = BitVec.ofNat 16 (calibrationOf m sh) := rfl
@[simp] theorem writeShadow_configWord (m sh : U16) (s : State) : (writeShadow m sh s).configWord = s.configWord := rfl
@[simp] theorem writeShadow_maxCurrentMa (m sh : U16) (s : State) : (writeShadow m sh s).maxCurrentMa = m := rfl
@[simp] theorem writeShadow_shuntMohm (m sh : U16) (s : State) : (writeShadow m sh s).shuntMohm = sh := rfl
@[simp] theorem writeShadow_pushDuration (m sh : U16) (s : State) : (writeShadow m sh s).pushDuration = s.pushDuration := rfl
@[simp] theorem writeShadow_normState (m sh : U16) (s : State) : (writeShadow m sh s).normState = s.normState := rfl
@[simp] theorem writeShadow_lastSampleTime (m sh : U16) (s : State) : (writeShadow m sh s).lastSampleTime = s.lastSampleTime := rfl
@[simp] theorem writeShadow_gateEnabled (m sh : U16) (s : State) : (writeShadow m sh s).gateEnabled = s.gateEnabled := rfl
@[simp] theorem writeShadow_probe (m sh : U16) (s : State) : (writeShadow m sh s).probe = s.probe := rfl
@[simp] theorem writeShadow_outEn (m sh : U16) (s : State) : (writeShadow m sh s).outEn = s.outEn := rfl
@[simp] theorem writeShadow_resKind (m sh : U16) (s : State) : (writeShadow m sh s).resKind = s.resKind := rfl
@[simp] theorem writeShadow_resNum (m sh : U16) (s : State) : (writeShadow m sh s).resNum = s.resNum := rfl
@[simp] theorem writeShadow_resDen (m sh : U16) (s : State) : (writeShadow m sh s).resDen = s.resDen := rfl
@[simp] theorem writeShadow_status (m sh : U16) (s : State) : (writeShadow m sh s).status = s.status := rfl
@[simp] theorem writeShadow_ready (m sh : U16) (s : State) : (writeShadow m sh s).ready = s.ready := rfl
@[simp] theorem writeShadow_btnN (m sh : U16) (s : State) : (writeShadow m sh s).btnN = s.btnN := rfl
@[simp] theorem writeShadow_now (m sh : U16) (s : State) : (writeShadow m sh s).now = s.now := rfl
@[simp] theorem writeShadow_inbox (m sh : U16) (s : State) : (writeShadow m sh s).inbox = s.inbox := rfl
@[simp] theorem writeShadow_reads (m sh : U16) (s : State) : (writeShadow m sh s).reads = s.reads := rfl
@[simp] theorem writeShadow_acks (m sh : U16) (s : State) : (writeShadow m sh s).acks = s.acks := rfl
@[simp] theorem writeShadow_readDraws (m sh : U16) (s : State) : (writeShadow m sh s).readDraws = s.readDraws := rfl
@[simp] theorem writeShadow_ackDraws (m sh : U16) (s : State) : (writeShadow m sh s).ackDraws = s.ackDraws := rfl
@[simp] theorem writeShadow_trace (m sh : U16) (s : State) : (writeShadow m sh s).trace = s.trace := rfl

/-! ## drivePin_probe -/

@[simp] theorem drivePin_probe_calValue (b : Bool) (s : State) : (drivePin .probe b s).calValue = s.calValue := rfl
@[simp] theorem drivePin_probe_configWord (b : Bool) (s : State) : (drivePin .probe b s).configWord = s.configWord := rfl
@[simp] theorem drivePin_probe_maxCurrentMa (b : Bool) (s : State) : (drivePin .probe b s).maxCurrentMa = s.maxCurrentMa := rfl
@[simp] theorem drivePin_probe_shuntMohm (b : Bool) (s : State) : (drivePin .probe b s).shuntMohm = s.shuntMohm := rfl
@[simp] theorem drivePin_probe_pushDuration (b : Bool) (s : State) : (drivePin .probe b s).pushDuration = s.pushDuration := rfl
@[simp] theorem drivePin_probe_normState (b : Bool) (s : State) : (drivePin .probe b s).normState = s.normState := rfl
@[simp] theorem drivePin_probe_lastSampleTime (b : Bool) (s : State) :
    (drivePin .probe b s).lastSampleTime = s.lastSampleTime := rfl
@[simp] theorem drivePin_probe_gateEnabled (b : Bool) (s : State) : (drivePin .probe b s).gateEnabled = s.gateEnabled := rfl
@[simp] theorem drivePin_probe_probe (b : Bool) (s : State) : (drivePin .probe b s).probe = b := rfl
@[simp] theorem drivePin_probe_outEn (b : Bool) (s : State) : (drivePin .probe b s).outEn = s.outEn := rfl
@[simp] theorem drivePin_probe_resKind (b : Bool) (s : State) : (drivePin .probe b s).resKind = s.resKind := rfl
@[simp] theorem drivePin_probe_resNum (b : Bool) (s : State) : (drivePin .probe b s).resNum = s.resNum := rfl
@[simp] theorem drivePin_probe_resDen (b : Bool) (s : State) : (drivePin .probe b s).resDen = s.resDen := rfl
@[simp] theorem drivePin_probe_status (b : Bool) (s : State) : (drivePin .probe b s).status = s.status := rfl
@[simp] theorem drivePin_probe_ready (b : Bool) (s : State) : (drivePin .probe b s).ready = s.ready := rfl
@[simp] theorem drivePin_probe_btnN (b : Bool) (s : State) : (drivePin .probe b s).btnN = s.btnN := rfl
@[simp] theorem drivePin_probe_now (b : Bool) (s : State) : (drivePin .probe b s).now = s.now := rfl
@[simp] theorem drivePin_probe_inbox (b : Bool) (s : State) : (drivePin .probe b s).inbox = s.inbox := rfl
@[simp] theorem drivePin_probe_reads (b : Bool) (s : State) : (drivePin .probe b s).reads = s.reads := rfl
@[simp] theorem drivePin_probe_acks (b : Bool) (s : State) : (drivePin .probe b s).acks = s.acks := rfl
@[simp] theorem drivePin_probe_readDraws (b : Bool) (s : State) : (drivePin .probe b s).readDraws = s.readDraws := rfl
@[simp] theorem drivePin_probe_ackDraws (b : Bool) (s : State) : (drivePin .probe b s).ackDraws = s.ackDraws := rfl
@[simp] theorem drivePin_probe_trace (b : Bool) (s : State) :
    (drivePin .probe b s).trace = s.trace ++ [.pin .probe b] := rfl

/-! ## drivePin_outEn -/

@[simp] theorem drivePin_outEn_calValue (b : Bool) (s : State) : (drivePin .outEn b s).calValue = s.calValue := rfl
@[simp] theorem drivePin_outEn_configWord (b : Bool) (s : State) : (drivePin .outEn b s).configWord = s.configWord := rfl
@[simp] theorem drivePin_outEn_maxCurrentMa (b : Bool) (s : State) : (drivePin .outEn b s).maxCurrentMa = s.maxCurrentMa := rfl
@[simp] theorem drivePin_outEn_shuntMohm (b : Bool) (s : State) : (drivePin .outEn b s).shuntMohm = s.shuntMohm := rfl
@[simp] theorem drivePin_outEn_pushDuration (b : Bool) (s : State) : (drivePin .outEn b s).pushDuration = s.pushDuration := rfl
@[simp] theorem drivePin_outEn_normState (b : Bool) (s : State) : (drivePin .outEn b s).normState = s.normState := rfl
@[simp] theorem drivePin_outEn_lastSampleTime (b : Bool) (s : State) :
    (drivePin .outEn b s).lastSampleTime = s.lastSampleTime := rfl
@[simp] theorem drivePin_outEn_gateEnabled (b : Bool) (s : State) : (drivePin .outEn b s).gateEnabled = s.gateEnabled := rfl
@[simp] theorem drivePin_outEn_probe (b : Bool) (s : State) : (drivePin .outEn b s).probe = s.probe := rfl
@[simp] theorem drivePin_outEn_outEn (b : Bool) (s : State) : (drivePin .outEn b s).outEn = b := rfl
@[simp] theorem drivePin_outEn_resKind (b : Bool) (s : State) : (drivePin .outEn b s).resKind = s.resKind := rfl
@[simp] theorem drivePin_outEn_resNum (b : Bool) (s : State) : (drivePin .outEn b s).resNum = s.resNum := rfl
@[simp] theorem drivePin_outEn_resDen (b : Bool) (s : State) : (drivePin .outEn b s).resDen = s.resDen := rfl
@[simp] theorem drivePin_outEn_status (b : Bool) (s : State) : (drivePin .outEn b s).status = s.status := rfl
@[simp] theorem drivePin_outEn_ready (b : Bool) (s : State) : (drivePin .outEn b s).ready = s.ready := rfl
@[simp] theorem drivePin_outEn_btnN (b : Bool) (s : State) : (drivePin .outEn b s).btnN = s.btnN := rfl
@[simp] theorem drivePin_outEn_now (b : Bool) (s : State) : (drivePin .outEn b s).now = s.now := rfl
@[simp] theorem drivePin_outEn_inbox (b : Bool) (s : State) : (drivePin .outEn b s).inbox = s.inbox := rfl
@[simp] theorem drivePin_outEn_reads (b : Bool) (s : State) : (drivePin .outEn b s).reads = s.reads := rfl
@[simp] theorem drivePin_outEn_acks (b : Bool) (s : State) : (drivePin .outEn b s).acks = s.acks := rfl
@[simp] theorem drivePin_outEn_readDraws (b : Bool) (s : State) : (drivePin .outEn b s).readDraws = s.readDraws := rfl
@[simp] theorem drivePin_outEn_ackDraws (b : Bool) (s : State) : (drivePin .outEn b s).ackDraws = s.ackDraws := rfl
@[simp] theorem drivePin_outEn_trace (b : Bool) (s : State) :
    (drivePin .outEn b s).trace = s.trace ++ [.pin .outEn b] := rfl

end Sys2Proof.Machine
end

