-- ==== Sys2Proof/Laws/Ops.lean ====
section
/-! SUPPORT. For each shared operation, what it does: the oracle's answers, the bus transactions, the restore protocol,
the button step, the measurement, and the frames of the larger operations.

A frame lemma has the form "the result is the old state with these fields replaced": every other field is unchanged. -/

namespace Sys2Proof.Machine

/-! ## The oracle's answers depend on the chip's list and counter alone -/

theorem readAnswer_congr {s t : State} (k : Nat) (hr : t.reads = s.reads) (hd : t.readDraws = s.readDraws) :
    readAnswer k t = readAnswer k s := by
  simp only [readAnswer, readAnswerBytes, hr, hd]

theorem ackAnswer_congr {s t : State} (k : Nat) (ha : t.acks = s.acks) (hd : t.ackDraws = s.ackDraws) :
    ackAnswer k t = ackAnswer k s := by
  simp only [ackAnswer, ha, hd]

@[simp] theorem readAnswer_record (k : Nat) (e : Event) (s : State) : readAnswer k (record e s) = readAnswer k s := rfl
@[simp] theorem readAnswer_delay (k : Nat) (t : Wait) (s : State) : readAnswer k (delay t s) = readAnswer k s := rfl
@[simp] theorem readAnswer_takeAcks (k n : Nat) (s : State) : readAnswer k (takeAcks n s) = readAnswer k s := rfl
@[simp] theorem readAnswer_indicator (k : Nat) (c : Color) (s : State) : readAnswer k (indicator c s) = readAnswer k s := rfl
@[simp] theorem readAnswer_drivePin (k : Nat) (p : Pin) (b : Bool) (s : State) :
    readAnswer k (drivePin p b s) = readAnswer k s := by cases p <;> rfl
@[simp] theorem ackAnswer_record (k : Nat) (e : Event) (s : State) : ackAnswer k (record e s) = ackAnswer k s := rfl
@[simp] theorem ackAnswer_delay (k : Nat) (t : Wait) (s : State) : ackAnswer k (delay t s) = ackAnswer k s := rfl
@[simp] theorem ackAnswer_takeReads (k n : Nat) (s : State) : ackAnswer k (takeReads n s) = ackAnswer k s := rfl
@[simp] theorem ackAnswer_indicator (k : Nat) (c : Color) (s : State) : ackAnswer k (indicator c s) = ackAnswer k s := rfl
@[simp] theorem ackAnswer_drivePin (k : Nat) (p : Pin) (b : Bool) (s : State) :
    ackAnswer k (drivePin p b s) = ackAnswer k s := by cases p <;> rfl

/-- After `j` answers the k-th coming one is the one that was `j + k` ahead. -/
@[simp] theorem readAnswer_takeReads (k j : Nat) (s : State) : readAnswer k (takeReads j s) = readAnswer (j + k) s := by
  simp only [readAnswer, readAnswerBytes, takeReads, List.getElem?_drop, List.length_drop]
  cases h : s.reads[j + k]? with
  | some b => rfl
  | none =>
    have : s.reads.length ≤ j + k := List.getElem?_eq_none_iff.mp h
    simp only []
    congr 2
    omega

@[simp] theorem ackAnswer_takeAcks (k j : Nat) (s : State) : ackAnswer k (takeAcks j s) = ackAnswer (j + k) s := by
  simp only [ackAnswer, takeAcks, List.getElem?_drop, List.length_drop]
  cases h : s.acks[j + k]? with
  | some b => rfl
  | none =>
    have : s.acks.length ≤ j + k := List.getElem?_eq_none_iff.mp h
    have e : s.ackDraws + (j - s.acks.length) + (k - (s.acks.length - j)) = s.ackDraws + (j + k - s.acks.length) := by
      omega
    simp only [e]

/-- Answers taken one after the other are taken together. -/
@[simp] theorem takeReads_takeReads (j k : Nat) (s : State) : takeReads j (takeReads k s) = takeReads (k + j) s := by
  have e : s.readDraws + (k - s.reads.length) + (j - (s.reads.length - k)) = s.readDraws + (k + j - s.reads.length) := by
    omega
  simp only [takeReads, List.drop_drop, List.length_drop, e]

@[simp] theorem takeAcks_takeAcks (j k : Nat) (s : State) : takeAcks j (takeAcks k s) = takeAcks (k + j) s := by
  have e : s.ackDraws + (k - s.acks.length) + (j - (s.acks.length - k)) = s.ackDraws + (k + j - s.acks.length) := by
    omega
  simp only [takeAcks, List.drop_drop, List.length_drop, e]

/-- An answer listed in the state is the one that is read. -/
theorem readAnswer_of_listed {k : Nat} {s : State} {b : Byte × Byte} (h : s.reads[k]? = some b) :
    readAnswer k s = joinBytes b := by
  simp only [readAnswer, readAnswerBytes, h]

theorem ackAnswer_of_listed {k : Nat} {s : State} {a : Ack} (h : s.acks[k]? = some a) : ackAnswer k s = a := by
  simp only [ackAnswer, h]

/-! ## Bus transactions (R62, R63) -/

/-- `BusRead`: the value is the next answer, and the three events are recorded in their order. -/
theorem busRead_eq (ptr : Byte) (s : State) :
    busRead ptr s =
      (readAnswer 0 s,
        { takeReads 1 s with
          trace := s.trace ++ [.busSel ptr, .delay .ptrRead, .busRd ptr (readAnswer 0 s)] }) := by
  simp [busRead, record, delay, takeReads, readAnswer, readAnswerBytes]

/-- `BusWrite`: the acknowledge is the next one, and the event is recorded. -/
theorem busWrite_eq (ptr : Byte) (v : U16) (s : State) :
    busWrite ptr v s =
      (ackAnswer 0 s, { takeAcks 1 s with trace := s.trace ++ [.busWr ptr v (ackAnswer 0 s)] }) := rfl

theorem busRead_frame (ptr : Byte) (s : State) :
    (busRead ptr s).2 =
      { s with reads := (busRead ptr s).2.reads, readDraws := (busRead ptr s).2.readDraws
               trace := (busRead ptr s).2.trace } := rfl

theorem busWrite_frame (ptr : Byte) (v : U16) (s : State) :
    (busWrite ptr v s).2 =
      { s with acks := (busWrite ptr v s).2.acks, ackDraws := (busWrite ptr v s).2.ackDraws
               trace := (busWrite ptr v s).2.trace } := rfl

/-- One restore takes two acknowledges and records its three events (R170). -/
theorem restoreChip_eq (s : State) :
    restoreChip s =
      { takeAcks 2 s with
        trace := s.trace ++
          [.busWr Config.ptrConfig s.configWord (ackAnswer 0 s), .busWr Config.ptrCal s.calValue (ackAnswer 1 s),
            .delay .conv] } := by
  simp [restoreChip, busWrite, record, delay, takeAcks, ackAnswer]
  omega

/-! ## Answers after a transaction, whose history is written out -/

@[simp] theorem readAnswer_takeReads_trace (k j : Nat) (s : State) (h : List Event) :
    readAnswer k { takeReads j s with trace := h } = readAnswer (j + k) s := readAnswer_takeReads k j s

@[simp] theorem readAnswer_takeAcks_trace (k n : Nat) (s : State) (h : List Event) :
    readAnswer k { takeAcks n s with trace := h } = readAnswer k s := rfl

@[simp] theorem ackAnswer_takeReads_trace (k j : Nat) (s : State) (h : List Event) :
    ackAnswer k { takeReads j s with trace := h } = ackAnswer k s := rfl

@[simp] theorem takeReads_takeReads_trace (j k : Nat) (s : State) (h : List Event) :
    takeReads j { takeReads k s with trace := h } = { takeReads (k + j) s with trace := h } := by
  have e := takeReads_takeReads j k s
  calc takeReads j { takeReads k s with trace := h }
      = { takeReads j (takeReads k s) with trace := h } := rfl
    _ = { takeReads (k + j) s with trace := h } := by rw [e]

@[simp] theorem takeReads_takeAcks_trace (j k n : Nat) (s : State) (h : List Event) :
    takeReads j { takeAcks n (takeReads k s) with trace := h } =
      { takeAcks n (takeReads (k + j) s) with trace := h } := by
  have e := takeReads_takeReads j k s
  calc takeReads j { takeAcks n (takeReads k s) with trace := h }
      = { takeAcks n (takeReads j (takeReads k s)) with trace := h } := rfl
    _ = { takeAcks n (takeReads (k + j) s) with trace := h } := by rw [e]

@[simp] theorem takeAcks_takeReads_trace (j k : Nat) (s : State) (h : List Event) :
    takeAcks j { takeReads k s with trace := h } = { takeAcks j (takeReads k s) with trace := h } := rfl

/-! ## The restore protocol, one turn of its loop (R170) -/

/-- The last turn: no restore is left, so the loop ends with this reading or with zero. -/
theorem readWithRestore_zero (ptr : Byte) (s : State) :
    readWithRestore ptr 0 s =
      if (busRead ptr s).1 ≠ 0#16 then busRead ptr s
      else (0#16, (busRead Config.ptrCal (busRead ptr s).2).2) := by
  unfold readWithRestore
  split <;> simp

/-- A turn with a restore left. -/
theorem readWithRestore_succ (ptr : Byte) (n : Nat) (s : State) :
    readWithRestore ptr (n + 1) s =
      if (busRead ptr s).1 ≠ 0#16 then busRead ptr s
      else if (busRead Config.ptrCal (busRead ptr s).2).1 ≠ 0#16 then
        (0#16, (busRead Config.ptrCal (busRead ptr s).2).2)
      else readWithRestore ptr n (restoreChip (busRead Config.ptrCal (busRead ptr s).2).2) := by
  rw [readWithRestore]

/-- What one read can change. -/
theorem busRead_changes (ptr : Byte) (s : State) :
    ∃ r rd tr, (busRead ptr s).2 = { s with reads := r, readDraws := rd, trace := tr } := by
  rw [busRead_eq]
  exact ⟨s.reads.drop 1, s.readDraws + (1 - s.reads.length), _, rfl⟩

/-- What the restore protocol can change: the history and what the chip has answered. -/
theorem readWithRestore_changes (ptr : Byte) (n : Nat) (s : State) :
    ∃ r rd a ad tr, (readWithRestore ptr n s).2 =
      { s with reads := r, readDraws := rd, acks := a, ackDraws := ad, trace := tr } := by
  obtain ⟨r1, rd1, tr1, h1⟩ := busRead_changes ptr s
  obtain ⟨r2, rd2, tr2, h2⟩ := busRead_changes Config.ptrCal (busRead ptr s).2
  rw [h1] at h2
  induction n generalizing s r1 rd1 tr1 r2 rd2 tr2 with
  | zero =>
    rw [readWithRestore_zero]
    split
    · exact ⟨r1, rd1, s.acks, s.ackDraws, tr1, h1⟩
    · exact ⟨r2, rd2, s.acks, s.ackDraws, tr2, by rw [h1]; exact h2⟩
  | succ n ih =>
    rw [readWithRestore_succ, h1, h2]
    split
    · exact ⟨r1, rd1, s.acks, s.ackDraws, tr1, h1⟩
    · split
      · exact ⟨r2, rd2, s.acks, s.ackDraws, tr2, rfl⟩
      · rw [restoreChip_eq]
        generalize hu : ({ takeAcks 2 _ with trace := _ } : State) = u
        obtain ⟨r3, rd3, tr3, h3⟩ := busRead_changes ptr u
        obtain ⟨r4, rd4, tr4, h4⟩ := busRead_changes Config.ptrCal (busRead ptr u).2
        rw [h3] at h4
        obtain ⟨r, rd, a, ad, tr, h⟩ := ih u r3 rd3 tr3 h3 r4 rd4 tr4 h4
        refine ⟨r, rd, a, ad, tr, ?_⟩
        rw [h, ← hu]
        rfl

/-- The restore protocol writes nothing of the block but the history and what the chip has answered. -/
theorem readWithRestore_frame (ptr : Byte) (n : Nat) (s : State) :
    (readWithRestore ptr n s).2 =
      { s with
        reads := (readWithRestore ptr n s).2.reads
        readDraws := (readWithRestore ptr n s).2.readDraws
        acks := (readWithRestore ptr n s).2.acks
        ackDraws := (readWithRestore ptr n s).2.ackDraws
        trace := (readWithRestore ptr n s).2.trace } := by
  obtain ⟨r, rd, a, ad, tr, h⟩ := readWithRestore_changes ptr n s
  rw [h]

/-! ## The button step (R201) -/

/-- The button step writes only the three button fields (R25). -/
theorem buttonStep_frame (s : State) :
    buttonStep s =
      { s with
        pushDuration := (buttonStep s).pushDuration
        normState := (buttonStep s).normState
        lastSampleTime := (buttonStep s).lastSampleTime } := by
  unfold buttonStep accumulate unlock
  split <;> split <;> first | rfl | (split <;> rfl)

@[simp] theorem buttonStep_calValue (s : State) : (buttonStep s).calValue = s.calValue := by rw [buttonStep_frame]
@[simp] theorem buttonStep_configWord (s : State) : (buttonStep s).configWord = s.configWord := by rw [buttonStep_frame]
@[simp] theorem buttonStep_maxCurrentMa (s : State) : (buttonStep s).maxCurrentMa = s.maxCurrentMa := by rw [buttonStep_frame]
@[simp] theorem buttonStep_shuntMohm (s : State) : (buttonStep s).shuntMohm = s.shuntMohm := by rw [buttonStep_frame]
@[simp] theorem buttonStep_gateEnabled (s : State) : (buttonStep s).gateEnabled = s.gateEnabled := by rw [buttonStep_frame]
@[simp] theorem buttonStep_probe (s : State) : (buttonStep s).probe = s.probe := by rw [buttonStep_frame]
@[simp] theorem buttonStep_outEn (s : State) : (buttonStep s).outEn = s.outEn := by rw [buttonStep_frame]
@[simp] theorem buttonStep_resKind (s : State) : (buttonStep s).resKind = s.resKind := by rw [buttonStep_frame]
@[simp] theorem buttonStep_resNum (s : State) : (buttonStep s).resNum = s.resNum := by rw [buttonStep_frame]
@[simp] theorem buttonStep_resDen (s : State) : (buttonStep s).resDen = s.resDen := by rw [buttonStep_frame]
@[simp] theorem buttonStep_status (s : State) : (buttonStep s).status = s.status := by rw [buttonStep_frame]
@[simp] theorem buttonStep_ready (s : State) : (buttonStep s).ready = s.ready := by rw [buttonStep_frame]
@[simp] theorem buttonStep_btnN (s : State) : (buttonStep s).btnN = s.btnN := by rw [buttonStep_frame]
@[simp] theorem buttonStep_now (s : State) : (buttonStep s).now = s.now := by rw [buttonStep_frame]
@[simp] theorem buttonStep_inbox (s : State) : (buttonStep s).inbox = s.inbox := by rw [buttonStep_frame]
@[simp] theorem buttonStep_reads (s : State) : (buttonStep s).reads = s.reads := by rw [buttonStep_frame]
@[simp] theorem buttonStep_acks (s : State) : (buttonStep s).acks = s.acks := by rw [buttonStep_frame]
@[simp] theorem buttonStep_readDraws (s : State) : (buttonStep s).readDraws = s.readDraws := by rw [buttonStep_frame]
@[simp] theorem buttonStep_ackDraws (s : State) : (buttonStep s).ackDraws = s.ackDraws := by rw [buttonStep_frame]
@[simp] theorem buttonStep_trace (s : State) : (buttonStep s).trace = s.trace := by rw [buttonStep_frame]

/-! ## The measurement and the current report -/

/-- `ReadBusMv()`: the millivolts of the next answer. -/
theorem readBusMv_eq (s : State) :
    readBusMv s = (busMillivolts (readAnswer 0 s), (busRead Config.ptrBus s).2) := by
  simp only [readBusMv, busRead_eq]

/-- What resistance mode can change. -/
theorem resistanceMode_changes (s : State) :
    ∃ k n d r rd tr, resistanceMode s =
      { s with probe := true, resKind := k, resNum := n, resDen := d, reads := r, readDraws := rd, trace := tr } := by
  obtain ⟨r, rd, tr, h⟩ := busRead_changes Config.ptrBus (drivePin .probe true s)
  simp only [resistanceMode, readBusMv_eq, h]
  exact ⟨_, _, _, r, rd, _, rfl⟩

/-- What voltage mode can change. -/
theorem voltageMode_changes (v : Nat) (s : State) :
    ∃ k n d tr, voltageMode v s = { s with resKind := k, resNum := n, resDen := d, trace := tr } :=
  ⟨_, _, _, _, rfl⟩

/-- `Measure()` as its two modes. -/
theorem measureStep_eq (s : State) :
    measureStep s =
      if busMillivolts (readAnswer 0 s) < Config.modeThreshMv then
        resistanceMode (busRead Config.ptrBus (drivePin .probe false s)).2
      else voltageMode (busMillivolts (readAnswer 0 s)) (busRead Config.ptrBus (drivePin .probe false s)).2 := by
  simp only [measureStep, readBusMv_eq, readAnswer_drivePin]

/-- What `Measure()` can change: the probe, the result registers, the history and what the chip has answered (R236). -/
theorem measureStep_changes (s : State) :
    ∃ b k n d r rd tr, measureStep s =
      { s with probe := b, resKind := k, resNum := n, resDen := d, reads := r, readDraws := rd, trace := tr } := by
  obtain ⟨r0, rd0, tr0, h0⟩ := busRead_changes Config.ptrBus (drivePin .probe false s)
  rw [measureStep_eq, h0]
  split
  · generalize hu : ({ drivePin .probe false s with reads := r0, readDraws := rd0, trace := tr0 } : State) = u
    obtain ⟨k, n, d, r, rd, tr, h⟩ := resistanceMode_changes u
    exact ⟨true, k, n, d, r, rd, tr, by rw [h, ← hu]; rfl⟩
  · generalize hu : ({ drivePin .probe false s with reads := r0, readDraws := rd0, trace := tr0 } : State) = u
    obtain ⟨k, n, d, tr, h⟩ := voltageMode_changes (busMillivolts (readAnswer 0 s)) u
    exact ⟨false, k, n, d, r0, rd0, tr, by rw [h, ← hu]; rfl⟩

/-- `ReadCurrentMa()`: the current of the restored reading. -/
theorem readCurrentMa_eq (s : State) :
    readCurrentMa s =
      (currentNumerator (readWithRestore Config.ptrCurrent Config.maxRetry s).1 s.maxCurrentMa,
        (readWithRestore Config.ptrCurrent Config.maxRetry s).2) := by
  have h := congrArg State.maxCurrentMa (readWithRestore_frame Config.ptrCurrent Config.maxRetry s)
  simp only [readCurrentMa, h]

/-- What the current report can change: the result registers, the history and what the chip has answered (R260). -/
theorem reportCurrent_changes (b : Bool) (s : State) :
    ∃ k n d r rd a ad tr, reportCurrent b s =
      { s with resKind := k, resNum := n, resDen := d, reads := r, readDraws := rd, acks := a, ackDraws := ad,
               trace := tr } := by
  obtain ⟨r, rd, a, ad, tr, h⟩ := readWithRestore_changes Config.ptrCurrent Config.maxRetry s
  simp only [reportCurrent, readCurrentMa_eq, h]
  exact ⟨_, _, _, _, _, _, _, _, rfl⟩

end Sys2Proof.Machine
end

