-- ==== Sys2Proof/Laws/Exec.lean ====
section
/-! SUPPORT. What a command and a step can do, said once: the preamble's three outcomes, the command's own rule, and the three cases of a step. -/

namespace Sys2Proof.Machine

/-! ## The preamble (R302) -/

/-- A command passes the preamble exactly when neither check fails. -/
theorem preamble_eq_none {i : Instr} {s : State} :
    preamble i s = none ↔
      (fatalFlag s.status = false ∨ i.opcode = rdregOpcode) ∧ (i.needsInit = true → initDone s.status = true) := by
  unfold preamble
  split
  · next h => simp [h.1, h.2]
  · next h =>
    split
    · next h' => simp [h'.1, h'.2]
    · next h' =>
      simp only [true_iff]
      refine ⟨?_, ?_⟩
      · by_cases hf : fatalFlag s.status = true
        · exact .inr (by_contra fun ho => h ⟨hf, ho⟩)
        · exact .inl (by simpa using hf)
      · intro hn
        by_contra hi
        exact h' ⟨hn, by simpa using hi⟩

/-- What a failed preamble check means. -/
theorem preamble_eq_some {i : Instr} {s : State} {c : StatusCode} (h : preamble i s = some c) :
    (c = .fatal ∧ fatalFlag s.status = true ∧ i.opcode ≠ rdregOpcode) ∨
    (c = .notInit ∧ i.needsInit = true ∧ initDone s.status = false) := by
  unfold preamble at h
  split at h
  · next h' => exact .inl ⟨by simpa using h.symm, h'.1, h'.2⟩
  · split at h
    · next h' => exact .inr ⟨by simpa using h.symm, h'.1, h'.2⟩
    · simp at h

/-! ## A command -/

/-- A command that passes the preamble ends with what its own rule gives. -/
theorem command_runs {i : Instr} {s : State} (h : preamble i s = none) (body : State → StatusCode × State) :
    command i body s = .next (finish (body s).1 (body s).2) := by
  simp [command, h]

/-- A command that fails the preamble ends with that code and changes nothing else. -/
theorem command_stops {i : Instr} {s : State} {c : StatusCode} (h : preamble i s = some c)
    (body : State → StatusCode × State) : command i body s = .next (finish c s) := by
  simp [command, h]

/-- The rule of each command after the preamble. -/
def ownRule : Instr → State → StatusCode × State
  | .init m sh => initBody m sh
  | .updcfg value mask => completes (updcfgBody value mask)
  | .rdbusv => completes rdbusvBody
  | .rdshunt => completes rdshuntBody
  | .rdcur => completes rdcurBody
  | .rdpwr => completes rdpwrBody
  | .pwrsave enable => completes (pwrsaveBody enable)
  | .reset => completes resetBody
  | .btnsample => completes btnsampleBody
  | .rescalc mv => completes (rescalcBody mv)
  | .measure => completes measureStep
  | .cycle => completes (cycleBody Config.orchWhileEnabled)
  | .rdreg index => rdregBody index

/-- Every meaning is the preamble around the command's own rule. -/
theorem exec_eq_command (i : Instr) (s : State) : exec i s = command i (ownRule i) s := by
  cases i <;> rfl

/-- Everything a command can do: end in the preamble, or run its own rule to its end. -/
theorem exec_cases {i : Instr} {s t : State} (h : exec i s = .next t) :
    (∃ c, preamble i s = some c ∧ t = finish c s) ∨
    (preamble i s = none ∧ t = finish (ownRule i s).1 (ownRule i s).2) := by
  rw [exec_eq_command] at h
  cases hp : preamble i s with
  | some c => rw [command_stops hp] at h; exact .inl ⟨c, rfl, by simpa using h.symm⟩
  | none => rw [command_runs hp] at h; exact .inr ⟨rfl, by simpa using h.symm⟩

/-- A rule that ends with `return` ends with OK (R9). -/
theorem completes_fst (f : State → State) (s : State) : (completes f s).1 = .ok := rfl

@[simp] theorem completes_snd (f : State → State) (s : State) : (completes f s).2 = f s := rfl

/-! ## A step (R10, R38) -/

/-- Everything a step can do: idle, refuse to accept while busy, run a decoded command, or end an illegal word. -/
theorem step_cases {s t : State} (h : step s = .next t) :
    (t = s ∧ (s.inbox = [] ∨ s.ready = false)) ∨
    (∃ p rest, s.inbox = p :: rest ∧ s.ready = true ∧
      ((∃ i, decode p.cmd = .ok i ∧ exec i (accept p rest s) = .next t) ∨
       (∃ r, decode p.cmd = .error r ∧ illegalWord p.cmd (accept p rest s) = .next t))) := by
  unfold step at h
  split at h
  · next hb => exact .inl ⟨by simpa using h.symm, .inl hb⟩
  · next p rest hb =>
    split at h
    · next hr =>
      refine .inr ⟨p, rest, hb, hr, ?_⟩
      unfold runWord at h
      split at h
      · next i hd => exact .inl ⟨i, hd, h⟩
      · next r hd => exact .inr ⟨r, hd, h⟩
    · next hr => exact .inl ⟨by simpa using h.symm, .inr (by simpa using hr)⟩

end Sys2Proof.Machine
end

