-- ==== Sys2Proof/Laws/Operands.lean ====
section
/-! SUPPORT. What each computed value is: the calculator's three cases, the accumulator as natural numbers, the bytes of a word, and the readings' ranges. -/

namespace Sys2Proof.Machine

/-! ## Bytes -/

/-- The two bytes of a word, joined, are the word (R62, R63). -/
@[simp] theorem joinBytes_split (v : U16) : joinBytes (highByte v, lowByte v) = v := by
  apply BitVec.eq_of_getLsbD_eq
  intro k hk
  simp only [joinBytes, highByte, lowByte, BitVec.getLsbD_append, BitVec.getLsbD_extractLsb']
  by_cases h : k < 8
  · simp [h]
  · have h8 : k - 8 < 8 := by omega
    have e : 8 + (k - 8) = k := by omega
    simp [h, h8, e]

/-! ## The calculator (R231) -/

theorem resistanceOf_short {v : Nat} (h : v < 2) : resistanceOf v = (.resistanceOhm, 0, 1) := by
  simp [resistanceOf, h]

theorem resistanceOf_open {v : Nat} (h : 5000 ≤ v) : resistanceOf v = (.openCircuit, Config.openSentinel, 1) := by
  have h2 : ¬ v < 2 := by omega
  simp [resistanceOf, h, h2]

theorem resistanceOf_between {v : Nat} (h2 : 2 ≤ v) (h : v < 5000) :
    resistanceOf v = (.resistanceOhm, ((1000 * v : Nat) : Int), 5016 - v) := by
  have h1 : ¬ v < 2 := by omega
  have h3 : ¬ 5000 ≤ v := by omega
  simp [resistanceOf, h1, h3]

/-! ## The accumulator (R205 to R207) -/

/-- The elapsed time is zero exactly when the two times are equal. -/
theorem elapsed_eq_zero {now last : Time} : elapsed now last = 0#32 ↔ now = last := by
  unfold elapsed
  constructor
  · intro h; bv_omega
  · rintro rfl; simp

/-- The elapsed time as a number (R205). -/
theorem elapsed_toNat (now last : Time) :
    (elapsed now last).toNat = (now.toNat + 2 ^ 32 - last.toNat) % 2 ^ 32 := by
  unfold elapsed
  have := now.isLt
  have := last.isLt
  rw [BitVec.toNat_sub]
  congr 1
  omega

/-- A charged accumulator as a number (R206). -/
theorem charge_toNat (d : U16) (dt : Time) : (charge d dt).toNat = min (d.toNat + dt.toNat) 100 := by
  simp only [charge, BitVec.toNat_ofNat, Config.maxHold]
  omega

/-- A discharged accumulator as a number (R207). -/
theorem discharge_toNat (d : U16) (dt : Time) : (discharge d dt).toNat = d.toNat - (dt.toNat + 1) := by
  have := d.isLt
  simp only [discharge, BitVec.toNat_ofNat]
  omega

/-! ## Readings -/

/-- A bus reading is a multiple of 4 mV up to 32764 (R128). -/
theorem busMillivolts_range (raw : U16) : busMillivolts raw % 4 = 0 ∧ busMillivolts raw ≤ 32764 := by
  have := raw.isLt
  simp only [busMillivolts, Config.busShift, Config.busLsbMv, Nat.shiftRight_eq_div_pow]
  omega

end Sys2Proof.Machine
end

