-- ==== Sys2Proof/Laws/PerInstr.lean ====
section
/-! SUPPORT. Per-instruction facts about the encoder: the three fields of a command's word (30_encoding.md R90 to R92). -/

/-- The word of a command holds its opcode and its operands in their fields. -/
def Sys2Proof.Laws.EncodedFields.Statement (i : Sys2Proof.Instr) : Prop :=
  Sys2Proof.opField (Sys2Proof.encode i) = i.opcode ∧ Sys2Proof.aField (Sys2Proof.encode i) = i.operandA ∧
    Sys2Proof.bField (Sys2Proof.encode i) = i.operandB

namespace Sys2Proof.Laws.EncodedFields

theorem of_any (i : Instr) : Statement i := by
  simp [Statement, encode]

theorem init (imax rshunt : U16) : Statement (.init imax rshunt) := of_any _
theorem updcfg (value mask : U16) : Statement (.updcfg value mask) := of_any _
theorem rdbusv : Statement .rdbusv := of_any _
theorem rdshunt : Statement .rdshunt := of_any _
theorem rdcur : Statement .rdcur := of_any _
theorem rdpwr : Statement .rdpwr := of_any _
theorem pwrsave (enable : Bool) : Statement (.pwrsave enable) := of_any _
theorem reset : Statement .reset := of_any _
theorem btnsample : Statement .btnsample := of_any _
theorem rescalc (mv : U16) : Statement (.rescalc mv) := of_any _
theorem measure : Statement .measure := of_any _
theorem cycle : Statement .cycle := of_any _
theorem rdreg (index : U16) : Statement (.rdreg index) := of_any _

end Sys2Proof.Laws.EncodedFields
end

