-- ==== Sys2Proof/Tests/Slice0.lean ====
section
/-! SUPPORT. Tests with the spec's own vectors (95_test_vectors.md), and for each statement with hypotheses a state that
meets them, clause by clause. Expected values come from the spec's tables; a vector's name is cited in its docstring. -/

namespace Sys2Proof.Tests

open Sys2Proof.Machine

/-! ## Well-formedness (R94) -/

/-- RDREG 8 is ill formed, RDREG 7 is not. -/
theorem test_wellFormed_rdreg_index : (Instr.rdreg 8).wellFormed = false ∧ (Instr.rdreg 7).wellFormed = true := by decide

/-- An ill-formed command is refused by the block with ILLEGAL_CMD, in the state it was given (HS11). -/
theorem test_illFormed_rdreg_refused :
    exec (.rdreg 8) State.reset = .next { State.reset with status := 0x0014#16 } := rfl

/-! ## Decoding: a word of 95_test_vectors.md for every constructor, bit 0 of the table word first -/

theorem test_decode_init : decodeTableWord 40 0x01800003E8 = some (.init 32768 1000) := by decide
theorem test_decode_updcfg : decodeTableWord 40 0x0200050007 = some (.updcfg 0x0005 0x0007) := by decide
theorem test_decode_rdbusv : decodeTableWord 40 0x0300000000 = some .rdbusv := by decide
theorem test_decode_rdshunt : decodeTableWord 40 0x0400000000 = some .rdshunt := by decide
theorem test_decode_rdcur : decodeTableWord 40 0x0500000000 = some .rdcur := by decide
theorem test_decode_rdpwr : decodeTableWord 40 0x0600000000 = some .rdpwr := by decide
theorem test_decode_pwrsave : decodeTableWord 40 0x0700010000 = some (.pwrsave true) ∧
    decodeTableWord 40 0x0700000000 = some (.pwrsave false) := by decide
theorem test_decode_reset : decodeTableWord 40 0x0800000000 = some .reset := by decide
theorem test_decode_btnsample : decodeTableWord 40 0x0900000000 = some .btnsample := by decide
theorem test_decode_rescalc : decodeTableWord 40 0x0A11D00000 = some (.rescalc 4560) := by decide
theorem test_decode_measure : decodeTableWord 40 0x0B00000000 = some .measure := by decide
theorem test_decode_cycle : decodeTableWord 40 0x0C00000000 = some .cycle := by decide
theorem test_decode_rdreg : decodeTableWord 40 0x0D00070000 = some (.rdreg 7) := by decide

/-- The illegal words of HS5 to HS10 decode to nothing. -/
theorem test_decode_illegal :
    decode 0x0000000000 = .error .opcode ∧ decode 0x0E00000000 = .error .opcode ∧
    decode 0xFF00000000 = .error .opcode ∧ decode 0x0300000001 = .error .reservedField ∧
    decode 0x0700020000 = .error .enableField ∧ decode 0x0A03E80001 = .error .reservedField := by decide

/-- The encodings of 95_test_vectors.md 2.1 and 2.2. -/
theorem test_encode :
    encode (.init 20000 1200) = 0x014E2004B0 ∧ encode (setcfg 0x1234) = 0x021234FFFF ∧
    encode psaveOn = 0x0700010000 ∧ encode (.rescalc 1000) = 0x0A03E80000 := by decide

/-- No two rows of the opcode map match one word (R92, R95). -/
theorem test_rows_disjoint :
    opcodeTable.Pairwise (fun q r => q.pattern &&& r.mask ≠ r.pattern ∨ r.pattern &&& q.mask ≠ q.pattern) := by decide

/-! ## States the vectors start from -/

/-- The "initialized state" of 95_test_vectors.md, with the chip's answers still to come. -/
def live (reads : List U16) (acks : List Ack) : State :=
  { State.reset with
    calValue := 0xA000
    configWord := 0x399F
    maxCurrentMa := 32768
    shuntMohm := 1000
    status := 0x0001
    reads := reads.map fun v => (highByte v, lowByte v)
    acks := acks }

/-- `live` with a button state, the gate and the pins, and the input ports. -/
def held (duration : U16) (norm : Bool) (last : Time) (gate probe outEn btnN : Bool) (now : Time) (reads : List U16) : State :=
  { live reads [] with
    pushDuration := duration
    normState := norm
    lastSampleTime := last
    gateEnabled := gate
    probe := probe
    outEn := outEn
    btnN := btnN
    now := now }

/-- The fatal state after INIT's bus failure (HS17). -/
def fatalState : State := { live [] [] with status := 0x0056 }

/-- `s` with one word presented. -/
def presenting (w : CmdWord) (s : State) : State := presentWord w s

/-- The state after a command. -/
def after (i : Instr) (s : State) : State :=
  match exec i s with
  | .next t => t
  | .refused _ => s

/-- The result registers. -/
def result (s : State) : ResultKind × BitVec 64 × BitVec 32 := (s.resKind, s.resNum, s.resDen)

/-- The button fields. -/
def button (s : State) : U16 × Bool × Time := (s.pushDuration, s.normState, s.lastSampleTime)

/-! ## One step of each command -/

/-- INIT 32768, 1000 from reset, acknowledged and not: the write, the shadow, and the flags (2.2). -/
theorem test_init_acknowledge :
    (after (.init 32768 1000) { State.reset with acks := [.ok] }).trace = [.busWr Config.ptrCal 0xA000 .ok] ∧
    (after (.init 32768 1000) { State.reset with acks := [.ok] }).status = 0x0001 ∧
    (after (.init 32768 1000) { State.reset with acks := [.fail] }).status = 0x0056 ∧
    (after (.init 32768 1000) { State.reset with acks := [.fail] }).calValue = 0xA000 := ⟨rfl, rfl, rfl, rfl⟩

/-- The calibration values of W1 and both sides of the boundary of R163. -/
theorem test_calibration_values :
    calibrationOf 20000 1200 = 55924 ∧ calibrationOf 50000 500 = 53687 ∧ calibrationOf 65535 65535 = 313 ∧
    calibrationOf 523 39159 = 65535 ∧ calibrationOf 1927 10628 = 65536 ∧ calibrationOf 3200 100 = 4194304 := by decide

/-- UPDCFG 0x0008, 0x0007: the value outside the mask is not masked (2.1). -/
theorem test_updcfg_outside_mask : (after (.updcfg 0x0008 0x0007) (live [] [.ok])).configWord = 0x3998 := rfl

/-- UPDCFG whose write fails still ends with OK (2.1). -/
theorem test_updcfg_ack_ignored :
    (after (.updcfg 0x0001 0x0000) (live [] [.fail])).trace = [.busWr Config.ptrConfig 0x399F .fail] ∧
    (after (.updcfg 0x0001 0x0000) (live [] [.fail])).status = 0x0001 := ⟨rfl, rfl⟩

/-- RDBUSV discards the status bits (2.1, raw 0x0007 and 0xFFFF). -/
theorem test_rdbusv : result (after .rdbusv (live [0x0007] [])) = (.busMv, 0, 1) ∧
    result (after .rdbusv (live [0xFFFF] [])) = (.busMv, 32764, 1) := ⟨rfl, rfl⟩

/-- RDSHUNT is signed (2.1, raw 0xFF38 and 0x8000). -/
theorem test_rdshunt : result (after .rdshunt (live [0xFF38] [])) = (.shuntMv, BitVec.ofInt 64 (-200), 100) ∧
    result (after .rdshunt (live [0x8000] [])) = (.shuntMv, BitVec.ofInt 64 (-32768), 100) := ⟨rfl, rfl⟩

/-- CR2: a negative current. -/
theorem test_rdcur_negative : result (after .rdcur (live [0xFF9C] [])) =
    (.currentMa, BitVec.ofInt 64 (-3276800), 32768) := rfl

/-- CR8: one restore whose writes both fail, then a reading. -/
theorem test_rdcur_restore :
    (after .rdcur (live [0, 0, 0x0064] [.fail, .fail])).trace =
      [.busSel Config.ptrCurrent, .delay .ptrRead, .busRd Config.ptrCurrent 0,
        .busSel Config.ptrCal, .delay .ptrRead, .busRd Config.ptrCal 0,
        .busWr Config.ptrConfig 0x399F .fail, .busWr Config.ptrCal 0xA000 .fail, .delay .conv,
        .busSel Config.ptrCurrent, .delay .ptrRead, .busRd Config.ptrCurrent 0x0064] := rfl

/-- CR12: the largest power. -/
theorem test_rdpwr_largest :
    result (after .rdpwr { live [0xFFFF] [] with maxCurrentMa := 65535 }) = (.powerMw, 85896724500, 32768) := rfl

/-- CR11: the bound exceeded ends with zero and OK. -/
theorem test_rdpwr_bound : result (after .rdpwr (live [0, 0, 0, 0] [.ok, .ok])) = (.powerMw, 0, 32768) ∧
    (after .rdpwr (live [0, 0, 0, 0] [.ok, .ok])).trace.length = 15 := ⟨rfl, rfl⟩

/-- PWRSAVE 0 writes the shadow word and keeps it (2.1). -/
theorem test_pwrsave_off :
    (after (.pwrsave false) (live [] [.ok])).trace = [.busWr Config.ptrConfig 0x399F .ok] := rfl

/-- PWRSAVE 1 clears the mode bits on the chip alone (2.1). -/
theorem test_pwrsave_on :
    (after (.pwrsave true) (live [] [.ok])).trace = [.busWr Config.ptrConfig (0x399F &&& ~~~Config.modeMask) .ok] ∧
    (after (.pwrsave true) (live [] [.ok])).configWord = 0x399F := ⟨rfl, rfl⟩

/-- RESET (2.1). -/
theorem test_reset :
    (after .reset (live [] [.ok])).trace = [.busWr Config.resetPtr Config.resetValue .ok, .delay .resetSettle] ∧
    (after .reset (live [] [.ok])).status = 0x0001 := ⟨rfl, rfl⟩

/-- BH8: the time wraps. -/
theorem test_btnsample_wrap :
    button (after .btnsample (held 1 false 4294967294 false false false false 3 [])) = (6, false, 3) := rfl

/-- BH6: a release to 0 turns the state off. -/
theorem test_btnsample_release :
    button (after .btnsample (held 50 true 1549 false false false true 1598 [])) = (0, false, 1598) ∧
    result (after .btnsample (held 50 true 1549 false false false true 1598 [])) = (.regval, 0, 1) := ⟨rfl, rfl⟩

/-- RESCALC at 1, 2 and 4999 mV (2.4). -/
theorem test_rescalc : result (after (.rescalc 1) State.reset) = (.resistanceOhm, 0, 1) ∧
    result (after (.rescalc 2) State.reset) = (.resistanceOhm, 2000, 5014) ∧
    result (after (.rescalc 4999) State.reset) = (.resistanceOhm, 4999000, 17) := ⟨rfl, rfl, rfl⟩

/-- RESCALC at 5000 mV is open (W4). -/
theorem test_rescalc_open :
    result (after (.rescalc 5000) State.reset) = (.openCircuit, BitVec.ofInt 64 (-1), 1) := rfl

/-- MS3: 4 mV is resistance mode. -/
theorem test_measure_resistance :
    (after .measure (live [0x0008, 0x07D0] [])).trace =
      [.pin .probe false, .busSel Config.ptrBus, .delay .ptrRead, .busRd Config.ptrBus 0x0008,
        .pin .probe true, .busSel Config.ptrBus, .delay .ptrRead, .busRd Config.ptrBus 0x07D0,
        .report .resistance 1000000 4016 false] ∧
    (after .measure (live [0x0008, 0x07D0] [])).probe = true := ⟨rfl, rfl⟩

/-- MS2: 8 mV is voltage mode. -/
theorem test_measure_voltage : result (after .measure (live [0x0010] [])) = (.busMv, 8, 1) ∧
    (after .measure (live [0x0010] [])).probe = false := ⟨rfl, rfl⟩

/-- OG2: the transition to enabled. -/
theorem test_cycle_enable :
    (after .cycle (held 99 false 99 false true false false 100 [0x0064])).trace =
      [.pin .probe false, .pin .outEn true, .indicator .active,
        .busSel Config.ptrCurrent, .delay .ptrRead, .busRd Config.ptrCurrent 0x0064,
        .report .current 3276800 32768 true] ∧
    (after .cycle (held 99 false 99 false true false false 100 [0x0064])).outEn = true := ⟨rfl, rfl⟩

/-- OG4, OG7: the transition to disabled keeps the result registers; the enabled cycle with the orchestrator running. -/
theorem test_cycle_disable_and_orchestrated :
    (after .cycle (held 2 true 169 true false true true 170 [])).trace = [.pin .outEn false, .indicator .inactive] ∧
    result (after .cycle (held 2 true 169 true false true true 170 [])) = (.none, 0, 1) ∧
    result (cycleBody true (held 100 true 100 true false true false 101 [0x0064, 0x1F40])) = (.busMv, 4000, 1) :=
  ⟨rfl, rfl, rfl⟩

/-- HS15, HS20: PINS after OG2; RDREG runs while fatal and gives STATUS as it stood. -/
theorem test_rdreg : result (after (.rdreg 7) (held 100 true 100 true false true false 100 [])) = (.regval, 0x0E, 1) ∧
    result (after (.rdreg 0) { fatalState with status := 0x0046 }) = (.regval, 0x46, 1) ∧
    (after (.rdreg 0) { fatalState with status := 0x0046 }).status = 0x0006 := ⟨rfl, rfl, rfl⟩

/-! ## Steps, the fetch, and the order of the checks -/

/-- The host's word runs as the first command after reset. -/
theorem test_withFetchWord :
    step (State.reset.withFetchWord 40 0x0A03E80000) =
      .next { State.reset with resKind := .resistanceOhm, resNum := 1000000, resDen := 4016 } := rfl

/-- HS1, HS21: NOT_INIT, and ILLEGAL_CMD before it. -/
theorem test_step_checks_after_reset :
    step (presenting 0x0300000000 State.reset) = .next { State.reset with status := 0x0024 } ∧
    step (presenting 0x0E00000000 State.reset) = .next { State.reset with status := 0x0014 } := ⟨rfl, rfl⟩

/-- HS18, HS19: FATAL before ILLEGAL_CMD, and no retry of INIT. -/
theorem test_step_checks_while_fatal :
    step (presenting 0x0E00000000 fatalState) = .next { fatalState with status := 0x0046 } ∧
    step (presenting 0x0100010001 fatalState) = .next { fatalState with status := 0x0046 } := ⟨rfl, rfl⟩

/-! ## The views: frames, the simulation oracle, the assembler -/

/-- The frames of a read: the register select, then the two bytes, most significant first (R96). -/
theorem test_frames_of_read : wireFrames (readEvents Config.ptrBus 0x1F40) =
    [⟨false, [Config.ptrBus]⟩, ⟨true, [0x1F, 0x40]⟩] := rfl

/-- The master acknowledges the first of the two bytes it reads (R64). -/
theorem test_master_acks : (rd2 0x1F40).masterAcks = [true, false] := rfl

/-- R67: after the chip reset command the simulation oracle's calibration reads 0. -/
theorem test_simulation_oracle_reset (c : SimChip) : (c.store Config.resetPtr Config.resetValue).cal = 0 := by
  simp [SimChip.store]

/-- The lines of P1, P7 and R99. -/
theorem test_assemble :
    assembleLine ['I', 'N', 'I', 'T', ' ', '3', '2', '7', '6', '8', ',', ' ', '1', '0', '0', '0'] = some (.init 32768 1000) ∧
    assembleLine ['P', 'S', 'A', 'V', 'E', '.', 'O', 'N'] = some (.pwrsave true) := by decide +kernel

/-- The text of P1's first encoding. -/
theorem test_encodingText : encodingText (.init 32768 1000) =
    ['0', 'x', '0', '1', '8', '0', '0', '0', '0', '3', 'E', '8'] := by decide +kernel

/-! ## Witnesses: a state and operands that meet each statement's hypotheses, clause by clause -/

/-- For the statements over commands that need `INIT_DONE`: UPDCFG, RDBUSV, RDSHUNT, PWRSAVE, RESET, RDCUR, RDPWR, MEASURE,
PseudoCommandsExpand; and, for the first hypothesis alone, INIT, BTNSAMPLE and RESCALC. -/
theorem witness_running : fatalFlag (live [] []).status = false ∧ initDone (live [] []).status = true := by decide

/-- EncodeInvertsDecode, StepRunsPresentedCommand. -/
theorem witness_decodes : (presenting 0x0A03E80000 State.reset).ready = true ∧
    (presenting 0x0A03E80000 State.reset).inbox = [⟨0x0A03E80000, true, 0⟩] ∧
    decode 0x0A03E80000 = .ok (.rescalc 1000) := ⟨rfl, rfl, rfl⟩

/-- DecodingIsTotalAndUnambiguous: a word of each half. -/
theorem witness_rows : OpcodeRow.matchesWord ⟨"RESCALC", 0xFF0000FFFF, 0x0A00000000⟩ 0x0AFFFF0000 = true ∧
    ∀ q ∈ opcodeTable, q.matchesWord 0x0A00000001 = false := by decide

/-- IllegalWordsHaveNoEffect: a word of each clause of R93, at the bounds of the opcode range. -/
theorem witness_illegal : illegalByFields 0x0000000000 ∧ illegalByFields 0x0E00000000 ∧ illegalByFields 0xFF00000000 ∧
    illegalByFields 0x0300010000 ∧ illegalByFields 0x0300000001 ∧ illegalByFields 0x0700020000 ∧
    ¬ illegalByFields 0x0D00070000 ∧ fatalFlag (presenting 0x0E00000000 State.reset).status = false := by
  unfold illegalByFields
  refine ⟨?_, ?_, ?_, ?_, ?_, ?_, ?_, ?_⟩ <;> decide

/-- StepIdlesWithoutCommand: both hypotheses. -/
theorem witness_idle : State.reset.inbox = [] ∧
    ({ presenting 0x0A03E80000 State.reset with ready := false } : State).ready = false := ⟨rfl, rfl⟩

/-- PreambleChecksInOrder, EveryCommandEndsWithItsCode: the hypotheses of check 1, check 2, check 3 and of no check. -/
theorem witness_preamble :
    (fatalFlag fatalState.status = true ∧ opField 0x0E00000000 ≠ 0x0D#8) ∧
    (opField 0x0D00000001 = 0x0D#8 ∧ illegalByFields 0x0D00000001) ∧
    (fatalFlag State.reset.status = false ∧ illegalByFields 0x0E00000000) ∧
    (¬ illegalByFields 0x0300000000 ∧ opNeedsInit (opField 0x0300000000) ∧ initDone State.reset.status = false) ∧
    (¬ illegalByFields 0x0300000000 ∧ initDone (live [] []).status = true) ∧
    (¬ illegalByFields 0x0A00000000 ∧ ¬ opNeedsInit (opField 0x0A00000000)) := by
  unfold illegalByFields opNeedsInit
  refine ⟨?_, ?_, ?_, ?_, ?_, ?_⟩ <;> decide

/-- EveryCommandEndsWithItsCode: a command that raised a code other than BUS_FAIL_INIT. -/
theorem witness_raised : StatusCode.notInit ≠ .ok ∧ StatusCode.notInit ≠ .busFailInit ∧
    lastCode (after .rdbusv State.reset).status = StatusCode.notInit.code := by decide +kernel

/-- StatusFieldsAtTheEnd: the bits it keeps. -/
theorem witness_status_bits : (endStatus .illegalCmd 0xFF0B#16).getLsbD 15 = true ∧
    (endStatus .illegalCmd 0xFF0B#16).getLsbD 8 = true ∧ (endStatus .illegalCmd 0xFF0B#16).getLsbD 3 = true := by decide

/-- FatalIsTerminal: a faulted state that steps, a word it turns away, and the INIT that faults. -/
theorem witness_fatal : (fatalFlag fatalState.status = true ∧ step fatalState = .next fatalState) ∧
    (presenting 0x0C00000000 fatalState).ready = true ∧ opField 0x0C00000000 ≠ 0x0D#8 ∧
    (fatalFlag State.reset.status = false ∧
      fatalFlag (after (.init 32768 1000) { State.reset with acks := [.fail] }).status = true) :=
  ⟨⟨rfl, rfl⟩, rfl, by decide, rfl, rfl⟩

/-- InitDerivesCalibration: both refusals at the bound of R163, and both acknowledges on either side of it. -/
theorem witness_init : fatalFlag State.reset.status = false ∧
    65535 < (2 * 1342177280000 + 1927 * 10628) / (2 * (1927 * 10628)) ∧
    (2 * 1342177280000 + 523 * 39159) / (2 * (523 * 39159)) = 65535 ∧
    ackAnswer 0 (live [] [.ok]) = .ok ∧ ackAnswer 0 (live [] [.fail]) = .fail := ⟨rfl, by decide, by decide, rfl, rfl⟩

/-- CalibrationRangeIsProductBound, RoundingHasNoTie: non-zero operands on either side of the bound. -/
theorem witness_calibration_bound : (1927#16 ≠ 0#16 ∧ 10628#16 ≠ 0#16 ∧ 1927 * 10628 = 20480156) ∧
    (523#16 ≠ 0#16 ∧ 39159#16 ≠ 0#16 ∧ 523 * 39159 = 20480157) := by decide

/-- CalibrationProductIdentity: an INIT that ended with OK. -/
theorem witness_init_ok :
    exec (.init 32768 1000) { State.reset with acks := [.ok] } =
      .next (after (.init 32768 1000) { State.reset with acks := [.ok] }) ∧
    lastCode (after (.init 32768 1000) { State.reset with acks := [.ok] }).status = StatusCode.ok.code := ⟨rfl, rfl⟩

/-- ResultsFitTheirRegisters: the two ends of the calculator's input, and the two ends of the host registers. -/
theorem witness_results : (0 : Nat) ≤ 65535 ∧ (resistanceOf 65535).2.1 = Config.openSentinel ∧
    hostRegister 0 (live [] []) = some 1 ∧ hostRegister 7 (live [] []) = some 0 := ⟨by decide, rfl, rfl, rfl⟩

/-- ButtonStepCases: unlock, idle, no-op, and a move by 1 and by the longest time. -/
theorem witness_button_cases :
    ((held 0 false 0 false false false false 7 []).btnN = false ∧ (held 0 false 0 false false false false 7 []).pushDuration = 0#16) ∧
    ((held 0 false 0 false false false true 55 []).btnN = true) ∧
    (3#16 ≠ 0#16 ∧ ((10 + 2 ^ 32 - 10) % 2 ^ 32 : Nat) = 0) ∧
    (1#16 ≠ 0#16 ∧ ((0 + 2 ^ 32 - 1) % 2 ^ 32 : Nat) = 2 ^ 32 - 1 ∧ ((8 + 2 ^ 32 - 7) % 2 ^ 32 : Nat) = 1) := by decide

/-- ButtonFieldsOnlyByButtonStep: a CYCLE that runs, a BTNSAMPLE before INIT (HS4), and a command that is neither. -/
theorem witness_button_fields : exec .cycle (held 100 true 100 true false true false 101 [0x0064]) =
      .next (after .cycle (held 100 true 100 true false true false 101 [0x0064])) ∧
    (exec .btnsample State.reset = .next (after .btnsample State.reset) ∧
      fatalFlag State.reset.status = false ∧ Instr.btnsample ≠ .cycle) ∧
    exec .measure (live [0x0010] []) = .next (after .measure (live [0x0010] [])) ∧
    Instr.measure ≠ .btnsample ∧ Instr.measure ≠ .cycle := ⟨rfl, ⟨rfl, rfl, by decide⟩, rfl, by decide, by decide⟩

/-- NormStateFlipsAtTheExtremes: a step that turns on (BH7) and one that turns off (BH6). -/
theorem witness_flips :
    ((held 99 false 99 false false false false 100 []).normState = false ∧
      (buttonStep (held 99 false 99 false false false false 100 [])).normState = true) ∧
    ((held 50 true 1549 false false false true 1598 []).normState = true ∧
      (buttonStep (held 50 true 1549 false false false true 1598 [])).normState = false) := ⟨⟨rfl, rfl⟩, rfl, rfl⟩

/-- ContinuousPressFlipsAtHundred, NoiseNeverFlips: an idle state, and the noise of one pressed unit. -/
theorem witness_press : State.reset.pushDuration = 0#16 ∧ State.reset.normState = false ∧
    pressedCharge [(false, 1), (false, 99), (true, 100)] State.reset = 98 := ⟨rfl, rfl, rfl⟩

/-- ContinuousReleaseFlipsAtFifty: a state at the top, one unit before the first release. -/
theorem witness_release : (held 100 true 120 true false true true 121 []).pushDuration = 100#16 ∧
    (held 100 true 120 true false true true 121 []).normState = true ∧
    (121 : Time) = (held 100 true 120 true false true true 121 []).lastSampleTime + 1#32 := ⟨rfl, rfl, rfl⟩

/-- RescalcInvertsDivider, ResistanceRange, DividerRoundTrip: each range at its bounds, and W2's row of 1000 ohm. -/
theorem witness_divider : (1#16).toNat < 2 ∧ 5000 ≤ (5000#16).toNat ∧ 2 ≤ (2#16).toNat ∧ (4999#16).toNat ≤ 4999 ∧
    (5000 : Nat) ≤ 5015 ∧ (0 : ℚ) < 1000 ∧ ((2508 : Nat) : ℚ) = 5016 * 1000 / (1000 + 1000) := by norm_num

/-- RestoreProtocolCases, MeasureSelectsMode: the chip's answers of each case (CR1, CR4, CR5, CR7; MS2, MS3). -/
theorem witness_answers : readAnswer 0 (live [0x0064] []) ≠ 0#16 ∧
    (readAnswer 0 (live [0, 0xA000] []) = 0#16 ∧ readAnswer 1 (live [0, 0xA000] []) ≠ 0#16) ∧
    (readAnswer 1 (live [0, 0, 0x0064] []) = 0#16 ∧ readAnswer 2 (live [0, 0, 0x0064] []) ≠ 0#16) ∧
    readAnswer 2 (live [0, 0, 0, 0] []) = 0#16 ∧
    (readAnswer 0 (live [0x0010] [])).toNat / 8 * 4 = 8 ∧ (readAnswer 0 (live [0x0008] [])).toNat / 8 * 4 = 4 := by decide +kernel

/-- RestoreLoopIsBounded: a register that is not the calibration register. -/
theorem witness_pointer : ∃ ptr : Byte, ptr ≠ Config.ptrCal := by
  by_cases h : (0#8 : Byte) = Config.ptrCal
  · exact ⟨1#8, fun h' => absurd (h.trans h'.symm) (by decide)⟩
  · exact ⟨0#8, h⟩

/-- CycleTransitions, CycleSteadyState: both transitions (OG2, OG4) and both steady states (OG3, OG1). -/
theorem witness_cycle :
    ((buttonStep (held 99 false 99 false true false false 100 [])).normState = true ∧
      (buttonStep (held 99 false 99 false true false false 100 [])).gateEnabled = false) ∧
    ((buttonStep (held 2 true 169 true false true true 170 [])).normState = false ∧
      (buttonStep (held 2 true 169 true false true true 170 [])).gateEnabled = true) ∧
    ((buttonStep (held 100 true 100 true false true false 101 [])).normState = true ∧
      (buttonStep (held 100 true 100 true false true false 101 [])).gateEnabled = true) ∧
    ((buttonStep (held 0 false 0 false false false true 5 [])).normState = false ∧
      (buttonStep (held 0 false 0 false false false true 5 [])).gateEnabled = false) :=
  ⟨⟨rfl, rfl⟩, ⟨rfl, rfl⟩, ⟨rfl, rfl⟩, rfl, rfl⟩

/-- CycleKeepsOutputInvariant: an enabled state with its probe off, and the CYCLE that keeps it so (OG3). -/
theorem witness_cycle_output :
    (held 100 true 100 true false true false 101 [0x0064]).outEn =
      (held 100 true 100 true false true false 101 [0x0064]).gateEnabled ∧
    (held 100 true 100 true false true false 101 [0x0064]).probe = false ∧
    (after .cycle (held 100 true 100 true false true false 101 [0x0064])).gateEnabled = true ∧
    Config.orchWhileEnabled = false := ⟨rfl, rfl, rfl, rfl⟩

/-- RdregReadsHostRegisters: the bounds of both ranges. -/
theorem witness_indices : (0#16).toNat ≤ 7 ∧ (7#16).toNat ≤ 7 ∧ 7 < (8#16).toNat ∧ 7 < (65535#16).toNat := by decide

/-- RegistersChangeOnlyByTheirCommands, HistoryGrowsWellFramed: a command and a step that answer a next state. -/
theorem witness_steps : exec (.rdreg 0) State.reset = .next (after (.rdreg 0) State.reset) ∧
    step (presenting 0x0D00000000 State.reset) = .next (after (.rdreg 0) State.reset) := ⟨rfl, rfl⟩

/-- AcknowledgesIgnoredOutsideInit: a command that is no INIT. -/
theorem witness_not_init : ∀ m sh, Instr.rdcur ≠ .init m sh := fun _ _ h => nomatch h

/-- OracleAdmitsEveryAnswer: answers that are listed. -/
theorem witness_oracle : ([0x0064] : List U16)[0]? = some 0x0064 ∧ ([.fail] : List Ack)[0]? = some .fail := by decide

/-- EveryStepKeepsInvariants, InvariantsHoldInReachableStates: the live state meets the invariants, and reset is reached. -/
theorem witness_inv : Inv (live [] []) ∧ Reachable State.reset :=
  ⟨by constructor <;> simp [live, State.calibrated, State.reset] <;> decide, Reachable.powerOn [] [] []⟩

end Sys2Proof.Tests
end

/-! Proofs about the state (10_state.md): the values after reset (R36), and who writes the button fields (R25).

R25 is a frame property: every operation but `buttonStep` keeps the three button fields. So each operation gets one
equation for `buttonFields`, and the rule of each command is read off from the operations it is made of. -/

namespace Sys2Proof.Machine

/-! ## Reset (R36) -/

/-- Settles O49: the table of R36 is the definition of `State.reset`, field by field. -/
theorem resetValues : Obligations.ResetValues := by
  unfold Obligations.ResetValues
  exact ⟨rfl, rfl, rfl, rfl, rfl, rfl, rfl, rfl, rfl, rfl, rfl, rfl, rfl, rfl, rfl, rfl⟩

/-! ## The button fields under the primitives -/

/-- The three button fields of R24 together. -/
def buttonFields (s : State) : U16 × Bool × Time := (s.pushDuration, s.normState, s.lastSampleTime)

theorem buttonFields_eq_iff {s t : State} :
    buttonFields t = buttonFields s ↔
      t.pushDuration = s.pushDuration ∧ t.normState = s.normState ∧ t.lastSampleTime = s.lastSampleTime := by
  simp [buttonFields]

@[simp] theorem buttonFields_delay (w : Wait) (s : State) : buttonFields (delay w s) = buttonFields s := rfl
@[simp] theorem buttonFields_indicator (c : Color) (s : State) : buttonFields (indicator c s) = buttonFields s := rfl
@[simp] theorem buttonFields_setResult (k : ResultKind) (n : Int) (d : Nat) (s : State) :
    buttonFields (setResult k n d s) = buttonFields s := rfl
@[simp] theorem buttonFields_finish (c : StatusCode) (s : State) : buttonFields (finish c s) = buttonFields s := rfl
@[simp] theorem buttonFields_drivePin (p : Pin) (b : Bool) (s : State) :
    buttonFields (drivePin p b s) = buttonFields s := by cases p <;> rfl
@[simp] theorem buttonFields_busRead (ptr : Byte) (s : State) : buttonFields (busRead ptr s).2 = buttonFields s := by
  simp [buttonFields, busRead]
@[simp] theorem buttonFields_busWrite (ptr : Byte) (v : U16) (s : State) :
    buttonFields (busWrite ptr v s).2 = buttonFields s := by
  simp [buttonFields, busWrite]

@[simp] theorem buttonFields_readWithRestore (ptr : Byte) (n : Nat) (s : State) :
    buttonFields (readWithRestore ptr n s).2 = buttonFields s := by
  rw [readWithRestore_frame]
  rfl

@[simp] theorem buttonFields_measureStep (s : State) : buttonFields (measureStep s) = buttonFields s := by
  obtain ⟨_, _, _, _, _, _, _, h⟩ := measureStep_changes s
  rw [h]
  rfl

@[simp] theorem buttonFields_reportCurrent (b : Bool) (s : State) :
    buttonFields (reportCurrent b s) = buttonFields s := by
  obtain ⟨_, _, _, _, _, _, _, _, h⟩ := reportCurrent_changes b s
  rw [h]
  rfl

/-! ## The button fields under the commands' own rules -/

theorem buttonFields_initBody (m sh : U16) (s : State) : buttonFields (initBody m sh s).2 = buttonFields s := by
  have concluded (ack : Ack) (u : State) : buttonFields (concludeInit ack u).2 = buttonFields u := by
    cases ack <;> rfl
  unfold initBody
  split
  · exact concluded _ _
  · rfl

theorem buttonFields_updcfgBody (value mask : U16) (s : State) :
    buttonFields (updcfgBody value mask s) = buttonFields s := by
  rw [updcfgBody, buttonFields_busWrite]
  rfl

theorem buttonFields_rdbusvBody (s : State) : buttonFields (rdbusvBody s) = buttonFields s := by
  simp [rdbusvBody, readBusMv_eq]

theorem buttonFields_rdshuntBody (s : State) : buttonFields (rdshuntBody s) = buttonFields s := by
  simp [rdshuntBody]

theorem buttonFields_resetBody (s : State) : buttonFields (resetBody s) = buttonFields s := by
  simp [resetBody]

theorem buttonFields_pwrsaveBody (enable : Bool) (s : State) :
    buttonFields (pwrsaveBody enable s) = buttonFields s := by
  cases enable <;> rfl

theorem buttonFields_rdcurBody (s : State) : buttonFields (rdcurBody s) = buttonFields s := by
  simp [rdcurBody, readCurrentMa_eq]

theorem buttonFields_rdpwrBody (s : State) : buttonFields (rdpwrBody s) = buttonFields s := by
  simp [rdpwrBody]

theorem buttonFields_rescalcBody (mv : U16) (s : State) : buttonFields (rescalcBody mv s) = buttonFields s := by
  simp [rescalcBody]

theorem buttonFields_rdregBody (index : U16) (s : State) :
    buttonFields (rdregBody index s).2 = buttonFields s := by
  unfold rdregBody
  split <;> rfl

/-- A gate transition writes `GATE_ENABLED` and the outputs, not the button (R261). -/
theorem buttonFields_gateTransition (want : Bool) (s : State) :
    buttonFields (gateTransition want s) = buttonFields s := by
  cases want
  · calc buttonFields (gateTransition false s) = buttonFields (becomeDisabled s) := rfl
      _ = buttonFields s := by simp [becomeDisabled]
  · calc buttonFields (gateTransition true s) = buttonFields (becomeEnabled s) := rfl
      _ = buttonFields s := by simp [becomeEnabled]

/-- A cycle without a transition only measures and reports (R262). -/
theorem buttonFields_steadyCycle (orch : Bool) (s : State) :
    buttonFields (steadyCycle orch s) = buttonFields s := by
  unfold steadyCycle
  split
  · cases orch <;> simp
  · simp

/-- Within CYCLE only the button step writes the button fields (R25, R260). -/
theorem buttonFields_cycleBody (orch : Bool) (s : State) :
    buttonFields (cycleBody orch s) = buttonFields (buttonStep s) := by
  simp only [cycleBody]
  split
  · exact buttonFields_gateTransition _ _
  · exact buttonFields_steadyCycle _ _

/-- Every command but the two button commands keeps the button fields (R25). -/
theorem buttonFields_ownRule_of_ne {i : Instr} (hb : i ≠ .btnsample) (hc : i ≠ .cycle) (s : State) :
    buttonFields (ownRule i s).2 = buttonFields s := by
  cases i with
  | btnsample => exact absurd rfl hb
  | cycle => exact absurd rfl hc
  | init m sh => exact buttonFields_initBody m sh s
  | rdcur => exact buttonFields_rdcurBody s
  | rdpwr => exact buttonFields_rdpwrBody s
  | pwrsave enable => exact buttonFields_pwrsaveBody enable s
  | measure => exact buttonFields_measureStep s
  | rdreg index => exact buttonFields_rdregBody index s
  | rescalc mv => exact buttonFields_rescalcBody mv s
  | updcfg value mask => exact buttonFields_updcfgBody value mask s
  | rdbusv => exact buttonFields_rdbusvBody s
  | rdshunt => exact buttonFields_rdshuntBody s
  | reset => exact buttonFields_resetBody s

/-- Both button commands leave what one button step gives (R25, R200, R260). -/
theorem buttonFields_ownRule_of_button {i : Instr} (h : i = .btnsample ∨ i = .cycle) (s : State) :
    buttonFields (ownRule i s).2 = buttonFields (buttonStep s) := by
  rcases h with rfl | rfl
  · rfl
  · exact buttonFields_cycleBody Config.orchWhileEnabled s

/-- BTNSAMPLE passes the preamble once `FATAL` is 0, and CYCLE once `INIT_DONE` is 1 as well (R92, R302). -/
theorem preamble_of_button {i : Instr} {s : State} (h : i = .btnsample ∨ i = .cycle)
    (hf : fatalFlag s.status = false) (hi : i = .cycle → initDone s.status = true) : preamble i s = none := by
  refine preamble_eq_none.mpr ⟨.inl hf, fun hn => ?_⟩
  rcases h with rfl | rfl
  · exact absurd hn (by decide)
  · exact hi rfl

/-! ## Who writes the button fields (R25) -/

/-- Settles O28: a command stopped by the preamble only ends with its code, and one that runs does to the button fields
what its own rule does. -/
theorem buttonFieldsOnlyByButtonStep : Obligations.ButtonFieldsOnlyByButtonStep := by
  unfold Obligations.ButtonFieldsOnlyByButtonStep
  intro i s t h
  simp only [← buttonFields_eq_iff]
  rcases exec_cases h with ⟨c, hp, rfl⟩ | ⟨-, rfl⟩
  · refine ⟨fun _ _ => buttonFields_finish c s, fun hbtn hf hi => ?_⟩
    have hpass := preamble_of_button hbtn hf hi
    exact absurd (hpass.symm.trans hp) (by simp)
  · exact ⟨fun hb hc => buttonFields_ownRule_of_ne hb hc s, fun hbtn _ _ => buttonFields_ownRule_of_button hbtn s⟩

end Sys2Proof.Machine

/-! Proofs about illegal words (30_encoding.md R93): which words the decoder refuses, and what a step does with such a word.

Each helper of the decoder refuses on its own reserved fields, so the words refused are collected row by row of the opcode
map; and a refused word goes through no meaning, only through `illegalWord`. -/

namespace Sys2Proof

/-! ## What the decoder's helpers refuse -/

theorem decodePlain_error {a b : U16} {i : Instr} :
    (∃ e, decodePlain a b i = .error e) ↔ a ≠ 0#16 ∨ b ≠ 0#16 := by
  unfold decodePlain
  split
  · next h => simp [h.1, h.2]
  · next h => simpa [imp_iff_not_or] using h

theorem decodeA_error {b : U16} {i : Instr} : (∃ e, decodeA b i = .error e) ↔ b ≠ 0#16 := by
  unfold decodeA
  split <;> simp_all

theorem decodePwrsave_error {a b : U16} :
    (∃ e, decodePwrsave a b = .error e) ↔ b ≠ 0#16 ∨ a.extractLsb' 1 15 ≠ 0#15 := by
  unfold decodePwrsave
  split
  · next hb => simp [hb]
  · next hb => split <;> simp_all

/-- An opcode outside the map is refused whatever the fields hold (R93). -/
theorem decodeFields_of_opcode_out {op : Nat} (h : op = 0x00 ∨ 0x0E ≤ op) (a b : U16) :
    decodeFields op a b = .error .opcode := by
  unfold decodeFields
  split
  case h_14 => rfl
  all_goals omega

end Sys2Proof

namespace Sys2Proof.Machine

/-! ## The words the decoder refuses (R93) -/

/-- On every row of the opcode map the reserved fields decide, and off the map every word is refused (R92, R93). -/
theorem decode_error_iff_illegalByFields (w : CmdWord) : (∃ e, decode w = .error e) ↔ illegalByFields w := by
  unfold decode illegalByFields
  generalize (opField w).toNat = op
  by_cases hout : op = 0x00 ∨ 0x0E ≤ op
  · simp [decodeFields_of_opcode_out hout, hout]
  · have hin : 0x01 ≤ op ∧ op ≤ 0x0D := by omega
    obtain ⟨hlo, hhi⟩ := hin
    interval_cases op <;> simp [decodeFields, decodePlain_error, decodeA_error, decodePwrsave_error]

/-! ## A step on an illegal word (R38, R302) -/

/-- A ready block with a word on the port accepts it and runs it (R38). -/
theorem step_of_presented {s : State} {p : Presentation} {rest : List Presentation} (hr : s.ready = true)
    (hb : s.inbox = p :: rest) : step s = runWord p.cmd (accept p rest s) exec := by
  simp [step, hb, hr]

/-- A word the decoder refuses runs no meaning. -/
theorem runWord_of_error {w : CmdWord} {r : Reject} (h : decode w = .error r) (s : State)
    (meaning : Instr → State → Host.Outcome State Fault Refusal) : runWord w s meaning = illegalWord w s := by
  simp [runWord, h]

/-- Past check 1 of the preamble an illegal word ends with ILLEGAL_CMD (R302). -/
theorem illegalWord_of_not_fatal {s : State} (h : fatalFlag s.status = false) (w : CmdWord) :
    illegalWord w s = .next (finish .illegalCmd s) := by
  simp [illegalWord, h]

/-- Settles O5: the decoder refuses by R93's clauses, and a refused word reaches only `illegalWord`, whose one effect is
the end of the command. -/
theorem illegalWordsHaveNoEffect : Obligations.IllegalWordsHaveNoEffect := by
  unfold Obligations.IllegalWordsHaveNoEffect
  refine ⟨decode_error_iff_illegalByFields, fun s p rest hr hb hf hill => ?_⟩
  obtain ⟨r, hd⟩ := (decode_error_iff_illegalByFields p.cmd).mpr hill
  calc step s = runWord p.cmd (accept p rest s) exec := step_of_presented hr hb
    _ = illegalWord p.cmd (accept p rest s) := runWord_of_error hd _ _
    _ = .next (finish .illegalCmd (accept p rest s)) := illegalWord_of_not_fatal (s := accept p rest s) hf _
    _ = .next { acceptedState p rest s with status := endStatus .illegalCmd s.status, ready := true } := rfl

end Sys2Proof.Machine

/-! Proofs about the sensor driver (40_sensor_driver.md): UPDCFG (R125), RDBUSV (R128), RDSHUNT (R130), PWRSAVE (R140) and
RESET (R145).

The five commands share one shape: past the preamble a command is its own rule and the end with OK, and each rule is one bus
transaction and what it does with the answer. So each rule gets one equation, read off from the bus transaction it makes. -/

namespace Sys2Proof.Machine

/-! ## A command that runs and ends with OK -/

/-- With `FATAL` at 0 and `INIT_DONE` at 1 no check of the preamble fails, so a rule that ends with `return` runs to its end
(R9, R302). -/
theorem exec_eq_finish_ok {i : Instr} {s : State} {f : State → State} (hf : fatalFlag s.status = false)
    (hi : initDone s.status = true) (hrule : ownRule i = completes f) : exec i s = .next (finish .ok (f s)) := by
  have hpass : preamble i s = none := preamble_eq_none.mpr ⟨.inl hf, fun _ => hi⟩
  rw [exec_eq_command, command_runs hpass, hrule, completes_fst, completes_snd]

/-! ## The reading of RDSHUNT (R130) -/

/-- Narrowing the signed reading to `RES_NUM` is sign extension (R8, R26). -/
theorem ofInt_shuntNumerator (raw : U16) : BitVec.ofInt 64 (shuntNumerator raw) = raw.signExtend 64 := rfl

/-! ## The commands' own rules -/

theorem updcfgBody_eq (value mask : U16) (s : State) :
    updcfgBody value mask s =
      { takeAcks 1 s with
        configWord := updatedConfig s.configWord value mask
        trace := s.trace ++
          [.busWr Config.ptrConfig (updatedConfig s.configWord value mask) (ackAnswer 0 s)] } := by
  simp only [updcfgBody, busWrite_eq]
  rfl

theorem rdbusvBody_eq (s : State) :
    rdbusvBody s =
      { takeReads 1 s with
        trace := s.trace ++ readEvents Config.ptrBus (readAnswer 0 s)
        resKind := .busMv
        resNum := BitVec.ofNat 64 (busMillivolts (readAnswer 0 s))
        resDen := 1#32 } := by
  simp only [rdbusvBody, readBusMv_eq, busRead_eq, setResult, BitVec.ofInt_natCast, readEvents]

theorem rdshuntBody_eq (s : State) :
    rdshuntBody s =
      { takeReads 1 s with
        trace := s.trace ++ readEvents Config.ptrShunt (readAnswer 0 s)
        resKind := .shuntMv
        resNum := (readAnswer 0 s).signExtend 64
        resDen := 100#32 } := by
  simp only [rdshuntBody, busRead_eq, setResult, ofInt_shuntNumerator, readEvents]

/-- The shadow is read and not written: only the word on the bus depends on `enable` (R140). -/
theorem pwrsaveBody_eq (enable : Bool) (s : State) :
    pwrsaveBody enable s =
      { takeAcks 1 s with
        trace := s.trace ++
          [.busWr Config.ptrConfig (if enable then idleConfig s.configWord else s.configWord) (ackAnswer 0 s)] } := by
  cases enable with
  | false => exact congrArg Prod.snd (busWrite_eq Config.ptrConfig s.configWord s)
  | true => exact congrArg Prod.snd (busWrite_eq Config.ptrConfig (idleConfig s.configWord) s)

/-- The settle wait comes after the write of the reset command (R145). -/
theorem resetBody_eq (s : State) :
    resetBody s =
      { takeAcks 1 s with
        trace := s.trace ++
          [.busWr Config.resetPtr Config.resetValue (ackAnswer 0 s), .delay .resetSettle] } := by
  simp [resetBody, busWrite_eq, delay, record]

/-! ## The obligations -/

/-- Settles O16: the rule's equation, with the new word as R125 writes it out. -/
theorem updcfgWritesShadowAndChip : Obligations.UpdcfgWritesShadowAndChip := by
  unfold Obligations.UpdcfgWritesShadowAndChip
  intro value mask s hf hi
  rw [exec_eq_finish_ok hf hi (f := updcfgBody value mask) rfl, updcfgBody_eq]
  rfl

/-- Settles O17: the rule's equation, and the range of a bus reading. -/
theorem rdbusvReadsMillivolts : Obligations.RdbusvReadsMillivolts := by
  unfold Obligations.RdbusvReadsMillivolts
  intro s hf hi
  refine ⟨?_, busMillivolts_range (readAnswer 0 s)⟩
  rw [exec_eq_finish_ok hf hi (f := rdbusvBody) rfl, rdbusvBody_eq]
  rfl

/-- Settles O18: the rule's equation, in which the signed reading is narrowed by sign extension. -/
theorem rdshuntReadsSignedHundredths : Obligations.RdshuntReadsSignedHundredths := by
  unfold Obligations.RdshuntReadsSignedHundredths
  intro s hf hi
  rw [exec_eq_finish_ok hf hi (f := rdshuntBody) rfl, rdshuntBody_eq]
  rfl

/-- Settles O19: the rule's equation for both values of `enable`. -/
theorem pwrsaveWritesChipOnly : Obligations.PwrsaveWritesChipOnly := by
  unfold Obligations.PwrsaveWritesChipOnly
  intro enable s hf hi
  rw [exec_eq_finish_ok hf hi (f := pwrsaveBody enable) rfl, pwrsaveBody_eq]
  rfl

/-- Settles O20: the rule's equation, the write and then the wait. -/
theorem resetActsOnChipOnly : Obligations.ResetActsOnChipOnly := by
  unfold Obligations.ResetActsOnChipOnly
  intro s hf hi
  rw [exec_eq_finish_ok hf hi (f := resetBody) rfl, resetBody_eq]
  rfl

end Sys2Proof.Machine

/-! Proofs about the calibration (41_calibration_restore.md): INIT (R161) and the restore protocol (R170).

The restore protocol is settled turn by turn: each way a turn of its loop can go gets one equation, for any number of
restores left, with the events of both reads and of the restore written out. -/

namespace Sys2Proof.Machine

/-! ## INIT (R161) -/

/-- INIT needs no `INIT_DONE`, so `FATAL` at 0 is all its preamble asks for (R92, R302). -/
theorem exec_init_of_not_fatal {s : State} (hf : fatalFlag s.status = false) (m sh : U16) :
    exec (.init m sh) s = .next (finish (initBody m sh s).1 (initBody m sh s).2) := by
  have hpass : preamble (.init m sh) s = none := preamble_eq_none.mpr ⟨.inl hf, fun hn => absurd hn Bool.false_ne_true⟩
  rw [exec_eq_command, command_runs hpass, ownRule]

/-- What INIT's range check asks for (R161, R163). -/
theorem calibrationFits_iff {m sh : U16} :
    calibrationFits m sh = true ↔
      m ≠ 0#16 ∧ sh ≠ 0#16 ∧ 1 ≤ calibrationOf m sh ∧ calibrationOf m sh ≤ 65535 := by
  simp [calibrationFits, and_assoc, Nat.one_le_iff_ne_zero]

/-- What stops INIT with CAL_RANGE (R161, R163). -/
theorem calibrationFits_eq_false_iff {m sh : U16} :
    calibrationFits m sh = false ↔
      m = 0#16 ∨ sh = 0#16 ∨ calibrationOf m sh = 0 ∨ 65535 < calibrationOf m sh := by
  simp only [← Bool.not_eq_true, calibrationFits_iff, not_and_or, ne_eq, not_not, Nat.not_le, Nat.lt_one_iff]

/-- The calibration value with its constant multiplied out (R160, R162). -/
theorem calibrationOf_eq (m sh : U16) :
    calibrationOf m sh =
      (2 * 1342177280000 + m.toNat * sh.toNat) / (2 * (m.toNat * sh.toNat)) := rfl

/-- An operand out of range stops INIT before any write (R161). -/
theorem initBody_of_not_fits {m sh : U16} (h : calibrationFits m sh = false) (s : State) :
    initBody m sh s = (.calRange, s) := by
  simp [initBody, h]

/-- INIT with the shadow loaded and the calibration register written once, before the flags (R161). -/
theorem initBody_of_fits {m sh : U16} (h : calibrationFits m sh = true) (s : State) :
    initBody m sh s =
      concludeInit (ackAnswer 0 s)
        { takeAcks 1 s with
          maxCurrentMa := m
          shuntMohm := sh
          calValue := BitVec.ofNat 16 (calibrationOf m sh)
          trace := s.trace ++
            [.busWr Config.ptrCal (BitVec.ofNat 16 (calibrationOf m sh)) (ackAnswer 0 s)] } := by
  simp only [initBody, h, if_true, busWrite_eq]
  rfl

/-- Settles O12: the range check decides between no effect and the shadow with its bus write, and the acknowledge decides
the flags. -/
theorem initDerivesCalibration : Obligations.InitDerivesCalibration := by
  unfold Obligations.InitDerivesCalibration
  intro m sh s hf
  simp only [← calibrationOf_eq, exec_init_of_not_fatal hf]
  refine ⟨fun hout => ?_, fun hm hsh hlow hhigh => ?_⟩
  · rw [initBody_of_not_fits (calibrationFits_eq_false_iff.mpr hout)]
    rfl
  · rw [initBody_of_fits (calibrationFits_iff.mpr ⟨hm, hsh, hlow, hhigh⟩)]
    exact ⟨fun hack => by rw [hack]; rfl, fun hack => by rw [hack]; rfl⟩

/-! ## One turn of the restore protocol (R170) -/

/-- A read of `ptr` and then of the calibration register: the second answer, and both reads' events in order. -/
theorem busRead_ptrCal_after_busRead (ptr : Byte) (s : State) :
    busRead Config.ptrCal (busRead ptr s).2 =
      (readAnswer 1 s,
        { takeReads 2 s with
          trace := s.trace ++ readEvents ptr (readAnswer 0 s) ++ readEvents Config.ptrCal (readAnswer 1 s) }) := by
  simp only [busRead_eq, readAnswer_takeReads_trace, takeReads_takeReads_trace, readEvents]

/-- A turn whose reading is not zero ends the loop with it. -/
theorem readWithRestore_of_reading {ptr : Byte} {s : State} (h : readAnswer 0 s ≠ 0#16) (n : Nat) :
    readWithRestore ptr n s =
      (readAnswer 0 s, { takeReads 1 s with trace := s.trace ++ readEvents ptr (readAnswer 0 s) }) := by
  have hread : (busRead ptr s).1 ≠ 0#16 := h
  cases n with
  | zero => rw [readWithRestore_zero, if_pos hread, busRead_eq, readEvents]
  | succ n => rw [readWithRestore_succ, if_pos hread, busRead_eq, readEvents]

/-- A zero reading is the loop's answer when no restore is left or the calibration is still there. -/
theorem readWithRestore_of_zero {ptr : Byte} {n : Nat} {s : State} (h0 : readAnswer 0 s = 0#16)
    (h1 : n = 0 ∨ readAnswer 1 s ≠ 0#16) :
    readWithRestore ptr n s =
      (0#16,
        { takeReads 2 s with
          trace := s.trace ++ readEvents ptr 0#16 ++ readEvents Config.ptrCal (readAnswer 1 s) }) := by
  have hread : ¬ (busRead ptr s).1 ≠ 0#16 := not_not.mpr h0
  cases n with
  | zero => rw [readWithRestore_zero, if_neg hread, busRead_ptrCal_after_busRead, h0]
  | succ n =>
    have hcal : readAnswer 1 s ≠ 0#16 := h1.resolve_left n.succ_ne_zero
    rw [readWithRestore_succ, if_neg hread, busRead_ptrCal_after_busRead, if_pos hcal, h0]

/-- Two zero readings and a restore left: the loop goes on from the restored chip, with the shadow only read. -/
theorem readWithRestore_of_restore {ptr : Byte} {s : State} (h0 : readAnswer 0 s = 0#16)
    (h1 : readAnswer 1 s = 0#16) (n : Nat) :
    readWithRestore ptr (n + 1) s =
      readWithRestore ptr n
        { takeAcks 2 (takeReads 2 s) with
          trace := s.trace ++ readEvents ptr 0#16 ++ readEvents Config.ptrCal 0#16 ++
            restoreEvents s (ackAnswer 0 s) (ackAnswer 1 s) } := by
  have hread : ¬ (busRead ptr s).1 ≠ 0#16 := not_not.mpr h0
  rw [readWithRestore_succ, if_neg hread, busRead_ptrCal_after_busRead, if_neg (not_not.mpr h1), h0, h1, restoreChip_eq]
  rfl

/-- Settles O21: at most two turns, since one restore is allowed; each ends by the turn's own equation. -/
theorem restoreProtocolCases : Obligations.RestoreProtocolCases := by
  unfold Obligations.RestoreProtocolCases
  intro ptr s
  rw [restoredReading]
  split_ifs with h0 h1 h2
  · exact readWithRestore_of_reading h0 _
  · exact readWithRestore_of_zero (not_not.mp h0) (.inr h1)
  all_goals rw [readWithRestore_of_restore (not_not.mp h0) (not_not.mp h1)]
  · rw [readWithRestore_of_reading]
    · simp only [readAnswer_takeAcks_trace, readAnswer_takeReads, takeReads_takeAcks_trace]
    · simpa only [readAnswer_takeAcks_trace, readAnswer_takeReads] using h2
  · rw [readWithRestore_of_zero _ (.inl rfl)]
    · simp only [readAnswer_takeAcks_trace, readAnswer_takeReads, takeReads_takeAcks_trace]
    · simpa only [readAnswer_takeAcks_trace, readAnswer_takeReads, ne_eq, not_not] using h2

end Sys2Proof.Machine

/-! Proofs about the button hold detector (42_button_hold.md): the button step (R201) and BTNSAMPLE (R200).

The step is settled sample by sample: what a sample does depends on `PUSH_DURATION` at 0, on the level and on the elapsed
time, and each of these cases gets one equation of `buttonStep`. -/

namespace Sys2Proof.Machine

/-! ## What a move of the accumulator gives (R206 to R208) -/

/-- The moved accumulator as a number: up to the cap while pressed, down to 0 while released (R206, R207). -/
theorem movedDuration_toNat (s : State) (dt : Time) :
    (movedDuration s dt).toNat =
      if s.btnN = false then min (s.pushDuration.toNat + dt.toNat) 100 else s.pushDuration.toNat - (dt.toNat + 1) := by
  cases h : s.btnN with
  | false => simp [movedDuration, pressed, h, charge_toNat]
  | true => simp [movedDuration, pressed, h, discharge_toNat]

/-- The hysteresis with both thresholds as numbers (R208). -/
theorem hysteresis_eq (duration : U16) (norm : Bool) :
    hysteresis duration norm =
      if duration.toNat = 100 then true else if duration.toNat = 0 then false else norm := by
  simp only [hysteresis, Config.maxHold, BitVec.toNat_eq, BitVec.toNat_ofNat, Nat.zero_mod]

/-! ## What a sample does (R203 to R205) -/

theorem unlock_of_not_zero {s : State} (h : s.pushDuration ≠ 0#16) : unlock s = s := by
  simp [unlock, h]

/-- The unlock takes the present time, so the rest of the same step sees no elapsed time (R203, R205). -/
theorem buttonStep_of_unlock {s : State} (hb : s.btnN = false) (hd : s.pushDuration = 0#16) :
    buttonStep s = { s with pushDuration := 1#16, lastSampleTime := s.now } := by
  have hunlock : unlock s = { s with pushDuration := 1#16, lastSampleTime := s.now } := by
    simp [unlock, pressed, hb, hd]
  rw [buttonStep, hunlock]
  simp [accumulate, elapsed_eq_zero]

/-- Released at 0, the step is idle (R204). -/
theorem buttonStep_of_idle {s : State} (hb : s.btnN = true) (hd : s.pushDuration = 0#16) : buttonStep s = s := by
  simp [buttonStep, unlock, accumulate, pressed, hb, hd]

/-- Off 0, a sample at the time of the last one writes nothing (R205). -/
theorem buttonStep_of_elapsed_zero {s : State} (hd : s.pushDuration ≠ 0#16)
    (ht : elapsed s.now s.lastSampleTime = 0#32) : buttonStep s = s := by
  rw [buttonStep, unlock_of_not_zero hd, accumulate, if_neg hd, if_pos ht]

/-- Off 0, a sample at another time moves the accumulator and applies the hysteresis to what it left (R206 to R208). -/
theorem buttonStep_of_moved {s : State} (hd : s.pushDuration ≠ 0#16)
    (ht : elapsed s.now s.lastSampleTime ≠ 0#32) :
    buttonStep s =
      { s with
        lastSampleTime := s.now
        pushDuration := movedDuration s (elapsed s.now s.lastSampleTime)
        normState := hysteresis (movedDuration s (elapsed s.now s.lastSampleTime)) s.normState } := by
  rw [buttonStep, unlock_of_not_zero hd, accumulate, if_neg hd, if_neg ht]

/-- Settles O26: one equation per kind of sample, with the elapsed time and the moved accumulator read as numbers. -/
theorem buttonStepCases : Obligations.ButtonStepCases := by
  unfold Obligations.ButtonStepCases
  intro s dt d
  have hdt : (elapsed s.now s.lastSampleTime).toNat = dt := elapsed_toNat s.now s.lastSampleTime
  have hzero : elapsed s.now s.lastSampleTime = 0#32 ↔ dt = 0 := by
    rw [← hdt, BitVec.toNat_eq, BitVec.toNat_ofNat, Nat.zero_mod]
  have hmoved : (movedDuration s (elapsed s.now s.lastSampleTime)).toNat = d := by
    rw [movedDuration_toNat, hdt]
  refine ⟨buttonStep_of_unlock, buttonStep_of_idle, fun hd h0 => ?_, fun hd h0 => ?_⟩
  · exact buttonStep_of_elapsed_zero hd (hzero.mpr h0)
  · rw [buttonStep_of_moved hd (mt hzero.mp h0), hysteresis_eq, hmoved, ← hmoved, BitVec.ofNat_toNat,
      BitVec.setWidth_eq]

/-! ## BTNSAMPLE (R200) -/

/-- Narrowing a flag to `RES_NUM` gives 1 or 0 (R26). -/
theorem ofInt_flag (b : Bool) : BitVec.ofInt 64 b.toInt = if b then 1#64 else 0#64 := by
  cases b <;> rfl

/-- BTNSAMPLE's own rule writes the result registers from the state that the button step leaves (R200). -/
theorem btnsampleBody_eq (s : State) :
    btnsampleBody s =
      { buttonStep s with
        resKind := .regval
        resNum := if (buttonStep s).normState then 1#64 else 0#64
        resDen := 1#32 } := by
  simp only [btnsampleBody, setResult, ofInt_flag]

/-- Settles O27: BTNSAMPLE passes the preamble once `FATAL` is 0, and its own rule ends with OK on a `STATUS` that the
button step has not touched. -/
theorem btnsampleRunsButtonStep : Obligations.BtnsampleRunsButtonStep := by
  unfold Obligations.BtnsampleRunsButtonStep
  intro s hf
  have hpass : preamble .btnsample s = none := preamble_of_button (.inl rfl) hf nofun
  rw [exec_eq_command, command_runs hpass, ownRule, completes_fst, completes_snd, btnsampleBody_eq, finish,
    buttonStep_status]

end Sys2Proof.Machine

/-! Proofs about the resistance measurement (43_resistance.md): RESCALC (R230) and MEASURE (R236).

Both commands store what the calculator gives, so the calculator is settled first: in each range of R231 its value, narrowed
to the result registers, is the one the closed form writes out. MEASURE is then settled mode by mode. -/

namespace Sys2Proof.Machine

/-! ## The calculator in the result registers (R231) -/

/-- The narrowed value of the calculator is the closed form, range by range. -/
theorem narrowed_resistanceOf (v : Nat) :
    ((resistanceOf v).1, BitVec.ofInt 64 (resistanceOf v).2.1, BitVec.ofNat 32 (resistanceOf v).2.2) =
      dividerResult v := by
  unfold dividerResult
  split
  · next hshort => rw [resistanceOf_short hshort]; rfl
  · next hlong =>
    split
    · next hopen => rw [resistanceOf_open hopen]
    · next hclosed => rw [resistanceOf_between (Nat.le_of_not_lt hlong) (Nat.lt_of_not_le hclosed), BitVec.ofInt_natCast]

theorem setResult_resistanceOf (v : Nat) (s : State) :
    setResult (resistanceOf v).1 (resistanceOf v).2.1 (resistanceOf v).2.2 s =
      { s with
        resKind := (dividerResult v).1
        resNum := (dividerResult v).2.1
        resDen := (dividerResult v).2.2 } := by
  rw [← narrowed_resistanceOf]
  rfl

theorem report_resistanceOf (v : Nat) (resetAvg : Bool) (s : State) :
    report .resistance (resistanceOf v).2.1 (resistanceOf v).2.2 resetAvg s =
      record (.report .resistance (dividerResult v).2.1 (dividerResult v).2.2 resetAvg) s := by
  rw [← narrowed_resistanceOf]
  rfl

/-! ## RESCALC (R230) -/

/-- RESCALC needs no `INIT_DONE`, so `FATAL` at 0 is all its preamble asks for (R92, R302). -/
theorem exec_rescalc_of_not_fatal {s : State} (hf : fatalFlag s.status = false) (mv : U16) :
    exec (.rescalc mv) s = .next (finish .ok (rescalcBody mv s)) := by
  have hpass : preamble (.rescalc mv) s = none := preamble_eq_none.mpr ⟨.inl hf, nofun⟩
  rw [exec_eq_command, command_runs hpass, ownRule, completes_fst, completes_snd]

/-- Settles O34: RESCALC stores the calculator's value, which each of the three ranges gives. -/
theorem rescalcInvertsDivider : Obligations.RescalcInvertsDivider := by
  unfold Obligations.RescalcInvertsDivider
  intro mv s hf v ends
  rw [exec_rescalc_of_not_fatal hf, rescalcBody]
  refine ⟨fun hshort => ?_, fun hopen => ?_, fun h2 h => ?_, by decide⟩
  · rw [resistanceOf_short hshort]
    rfl
  · rw [resistanceOf_open hopen]
    rfl
  · rw [resistanceOf_between h2 (Nat.lt_succ_of_le h)]
    simp only [setResult, BitVec.ofInt_natCast]
    rfl

/-! ## MEASURE (R236) -/

/-- A bus reading in mV, with the shift and the weight of R128 as numbers. -/
theorem busMillivolts_eq (raw : U16) : busMillivolts raw = raw.toNat / 8 * 4 := by
  rw [busMillivolts, Nat.shiftRight_eq_div_pow, Config.busShift, Config.busLsbMv]

/-- Resistance mode drives the probe before its read, and reports the value before it stores it (R236 step 3). -/
theorem resistanceMode_eq (s : State) :
    resistanceMode s =
      { takeReads 1 s with
        probe := true
        trace := s.trace ++ [.pin .probe true] ++ readEvents Config.ptrBus (readAnswer 0 s) ++
          [.report .resistance (dividerResult (busMillivolts (readAnswer 0 s))).2.1
            (dividerResult (busMillivolts (readAnswer 0 s))).2.2 false]
        resKind := (dividerResult (busMillivolts (readAnswer 0 s))).1
        resNum := (dividerResult (busMillivolts (readAnswer 0 s))).2.1
        resDen := (dividerResult (busMillivolts (readAnswer 0 s))).2.2 } := by
  simp only [resistanceMode, readBusMv_eq, busRead_eq, readAnswer_drivePin, report_resistanceOf, setResult_resistanceOf]
  rfl

theorem voltageMode_eq (v : Nat) (s : State) :
    voltageMode v s =
      { s with
        trace := s.trace ++ [.report .voltage (BitVec.ofNat 64 v) 1#32 false]
        resKind := .busMv
        resNum := BitVec.ofNat 64 v
        resDen := 1#32 } := by
  simp only [voltageMode, setResult, report, BitVec.ofInt_natCast]
  rfl

/-- `Measure()` is its closed form: the first reading chooses the mode, and resistance mode takes the second one. -/
theorem measureStep_eq_measuredState (s : State) : measureStep s = measuredState s := by
  rw [measureStep_eq, busRead_eq, readAnswer_drivePin, measuredState, busMillivolts_eq]
  split
  · rw [resistanceMode_eq, readAnswer_takeReads_trace, readAnswer_drivePin, takeReads_takeReads_trace, busMillivolts_eq]
    simp [readEvents, takeReads]
  · rw [voltageMode_eq]
    simp [readEvents, takeReads]

/-- The mode of the measurement plays no part in `STATUS` (R236). -/
theorem measureStep_status (s : State) : (measureStep s).status = s.status := by
  obtain ⟨b, k, n, d, r, rd, tr, h⟩ := measureStep_changes s
  rw [h]

/-- Settles O37: past the preamble MEASURE is `Measure()`, whose closed form gives both modes. -/
theorem measureSelectsMode : Obligations.MeasureSelectsMode := by
  unfold Obligations.MeasureSelectsMode
  intro s hf hi
  rw [exec_eq_finish_ok hf hi (f := measureStep) rfl, finish, measureStep_status, measureStep_eq_measuredState]

end Sys2Proof.Machine

/-! Proofs about the control cycle (44_output_gate.md): CYCLE (R260).

CYCLE is the button step and then a transition or a steady cycle. The current report is settled first, since it takes its
reading from the restore protocol; then each direction of a transition gets one equation with its outputs in order. -/

namespace Sys2Proof.Machine

/-! ## The current report (R260) -/

/-- The current report is its closed form: the restore protocol gives the reading, which is reported before it is stored. -/
theorem reportCurrent_eq_currentReported (resetAvg : Bool) (s : State) :
    reportCurrent resetAvg s = currentReported resetAvg s := by
  have hread : readWithRestore Config.ptrCurrent Config.maxRetry s = restoredReading Config.ptrCurrent s :=
    restoreProtocolCases Config.ptrCurrent s
  simp only [reportCurrent, readCurrentMa_eq, hread]
  rfl

/-- A current report plays no part in `STATUS` (R260). -/
theorem reportCurrent_status (resetAvg : Bool) (s : State) : (reportCurrent resetAvg s).status = s.status := by
  obtain ⟨k, n, d, r, rd, a, ad, tr, h⟩ := reportCurrent_changes resetAvg s
  rw [h]

/-! ## The transitions (R261) -/

/-- Becoming enabled: the probe is off before the output is on, and the report starts from the outputs already driven. -/
theorem gateTransition_true (s : State) :
    gateTransition true s =
      { currentReported true
          { s with
            probe := false
            outEn := true
            trace := s.trace ++ [.pin .probe false, .pin .outEn true, .indicator .active] } with
        gateEnabled := true } := by
  simp [gateTransition, becomeEnabled, reportCurrent_eq_currentReported, indicator, drivePin, record]

/-- Becoming disabled: only the output is driven, so the probe stays and nothing is read. -/
theorem gateTransition_false (s : State) :
    gateTransition false s =
      { s with
        outEn := false
        gateEnabled := false
        trace := s.trace ++ [.pin .outEn false, .indicator .inactive] } := by
  simp [gateTransition, becomeDisabled, indicator, drivePin, record]

/-- A transition plays no part in `STATUS`, in either direction (R261). -/
theorem gateTransition_status (want : Bool) (s : State) : (gateTransition want s).status = s.status := by
  cases want with
  | false => rfl
  | true => exact reportCurrent_status true (indicator .active (drivePin .outEn true (drivePin .probe false s)))

/-! ## CYCLE (R260) -/

/-- A button level that differs from the gate is a confirmed transition, which consumes the cycle: no steady cycle runs,
whatever `ORCH_WHILE_ENABLED` is (R261). -/
theorem cycleBody_of_transition {want : Bool} {s : State} (hwant : (buttonStep s).normState = want)
    (hgate : (buttonStep s).gateEnabled = !want) (orch : Bool) :
    cycleBody orch s = gateTransition want (buttonStep s) := by
  subst hwant
  have hdiffer : (buttonStep s).normState ≠ (buttonStep s).gateEnabled := by
    rw [hgate]
    exact Bool.self_ne_not _
  exact if_pos hdiffer

/-- A CYCLE that passes the preamble and finds a transition ends with OK right after it (R261). -/
theorem exec_cycle_of_transition {want : Bool} {s : State} (hf : fatalFlag s.status = false)
    (hi : initDone s.status = true) (hwant : (buttonStep s).normState = want)
    (hgate : (buttonStep s).gateEnabled = !want) :
    exec .cycle s =
      .next { gateTransition want (buttonStep s) with status := endStatus .ok s.status, ready := true } := by
  rw [exec_eq_finish_ok hf hi (f := cycleBody Config.orchWhileEnabled) rfl, cycleBody_of_transition hwant hgate, finish,
    gateTransition_status, buttonStep_status]

/-- Settles O39: the button level that the step leaves is the direction of the transition, and each direction has its
equation. -/
theorem cycleTransitions : Obligations.CycleTransitions := by
  unfold Obligations.CycleTransitions
  intro s hf hi b
  refine ⟨fun hon hgate => ?_, fun hoff hgate => ?_⟩
  · rw [exec_cycle_of_transition hf hi hon hgate, gateTransition_true]
  · rw [exec_cycle_of_transition hf hi hoff hgate, gateTransition_false]

end Sys2Proof.Machine

/-! Proofs about host register access (45_host_access.md): RDREG (R290).

RDREG passes the preamble in every state, so what is left is the table of R33: which indices name a register, and that each
register's value, narrowed to `RES_NUM`, is the register zero-extended. -/

namespace Sys2Proof.Machine

/-! ## The table of host registers (R33) -/

/-- The weighted sum of the four pins is their concatenation, `PROBE` as bit 0 (R33). -/
theorem ofNat_pinsWord (s : State) :
    BitVec.ofNat 64 (pinsWord s) =
      (BitVec.ofBool s.normState ++ BitVec.ofBool s.gateEnabled ++ BitVec.ofBool s.outEn ++
        BitVec.ofBool s.probe).setWidth 64 := by
  have weights : ∀ n g o p : Bool,
      BitVec.ofNat 64 (p.toNat + 2 * o.toNat + 4 * g.toNat + 8 * n.toNat) =
        (BitVec.ofBool n ++ BitVec.ofBool g ++ BitVec.ofBool o ++ BitVec.ofBool p).setWidth 64 := by decide
  exact weights s.normState s.gateEnabled s.outEn s.probe

/-- Up to index 0x07 there is a register, and narrowing its value to 64 bits is zero extension (R33, R290). -/
theorem hostRegister_of_le {index : Nat} (h : index ≤ 7) (s : State) :
    ∃ v, hostRegister index s = some v ∧ BitVec.ofNat 64 v = hostIndexValue index s :=
  match index, h with
  | 0, _ => ⟨_, rfl, BitVec.ofNat_toNat 64 (readStatus s.status)⟩
  | 1, _ => ⟨_, rfl, BitVec.ofNat_toNat 64 s.calValue⟩
  | 2, _ => ⟨_, rfl, BitVec.ofNat_toNat 64 s.configWord⟩
  | 3, _ => ⟨_, rfl, BitVec.ofNat_toNat 64 s.maxCurrentMa⟩
  | 4, _ => ⟨_, rfl, BitVec.ofNat_toNat 64 s.shuntMohm⟩
  | 5, _ => ⟨_, rfl, BitVec.ofNat_toNat 64 s.pushDuration⟩
  | 6, _ => ⟨_, rfl, BitVec.ofNat_toNat 64 s.lastSampleTime⟩
  | 7, _ => ⟨_, rfl, ofNat_pinsWord s⟩

/-- Above index 0x07 there is no register (R94). -/
theorem hostRegister_of_gt {index : Nat} (h : 7 < index) (s : State) : hostRegister index s = none := by
  unfold hostRegister
  split
  case h_9 => rfl
  all_goals omega

/-! ## RDREG (R290) -/

theorem rdregBody_of_le {index : U16} (h : index.toNat ≤ 7) (s : State) :
    rdregBody index s =
      (.ok, { s with resKind := .regval, resNum := hostIndexValue index.toNat s, resDen := 1#32 }) := by
  obtain ⟨v, hreg, hval⟩ := hostRegister_of_le h s
  simp only [rdregBody, hreg, setResult, BitVec.ofInt_natCast, hval]

theorem rdregBody_of_gt {index : U16} (h : 7 < index.toNat) (s : State) :
    rdregBody index s = (.illegalCmd, s) := by
  rw [rdregBody, hostRegister_of_gt h]

/-- RDREG runs in every state: it is the one opcode that check 1 lets pass while `FATAL` is 1, and it needs no `INIT_DONE`
(R302). -/
theorem exec_rdreg (index : U16) (s : State) :
    exec (.rdreg index) s = .next (finish (rdregBody index s).1 (rdregBody index s).2) := by
  have hpass : preamble (.rdreg index) s = none := preamble_eq_none.mpr ⟨.inr rfl, nofun⟩
  rw [exec_eq_command, command_runs hpass, ownRule]

/-- Settles O42: RDREG always runs its own rule, which the index alone splits into a register read and ILLEGAL_CMD. -/
theorem rdregReadsHostRegisters : Obligations.RdregReadsHostRegisters := by
  unfold Obligations.RdregReadsHostRegisters
  intro index s
  rw [exec_rdreg]
  refine ⟨fun hle => ?_, fun hgt => ?_⟩
  · rw [rdregBody_of_le hle, finish]
  · rw [rdregBody_of_gt hgt, finish]

end Sys2Proof.Machine

/-! Proofs about the end of a command (60_exceptions.md): its code (R301) and the fatal state (R305).

`STATUS` is the one register both rules speak of. Between the preamble and the end of a command only INIT writes it, so each
of the other commands' rules gets it back as it was, and what INIT can do is said once. -/

namespace Sys2Proof

/-! ## The opcode of a decoded word (R92) -/

/-- Each row of the opcode map decodes to a command of its own opcode. -/
theorem opcode_of_decodeFields {op : Nat} {a b : U16} {i : Instr} (h : decodeFields op a b = .ok i) :
    i.opcode.toNat = op := by
  unfold decodeFields at h
  split at h
  case h_1 => cases h; rfl
  case h_2 => cases h; rfl
  case h_7 => obtain ⟨-, rfl⟩ := decodePwrsave_ok.mp h; rfl
  case h_10 => obtain ⟨-, rfl⟩ := decodeA_ok.mp h; rfl
  case h_13 => obtain ⟨-, rfl⟩ := decodeA_ok.mp h; rfl
  case h_14 => cases h
  all_goals
    obtain ⟨-, rfl⟩ := decodePlain_ok.mp h
    rfl

theorem opcode_of_decode {w : CmdWord} {i : Instr} (h : decode w = .ok i) : i.opcode = opField w :=
  BitVec.eq_of_toNat_eq (opcode_of_decodeFields h)

end Sys2Proof

namespace Sys2Proof.Machine

/-! ## Who writes `STATUS` (R31) -/

@[simp] theorem readWithRestore_status (ptr : Byte) (n : Nat) (s : State) :
    (readWithRestore ptr n s).2.status = s.status := by rw [readWithRestore_frame]

/-- A steady cycle plays no part in `STATUS` (R262). -/
theorem steadyCycle_status (orch : Bool) (s : State) : (steadyCycle orch s).status = s.status := by
  unfold steadyCycle
  split
  · cases orch with
    | false => exact reportCurrent_status false s
    | true => exact (measureStep_status _).trans (reportCurrent_status false s)
  · exact measureStep_status s

/-- CYCLE's own rule plays no part in `STATUS` (R260). -/
theorem cycleBody_status (orch : Bool) (s : State) : (cycleBody orch s).status = s.status := by
  rw [← buttonStep_status s, cycleBody]
  split
  · exact gateTransition_status _ _
  · exact steadyCycle_status _ _

/-- RDREG reads `STATUS` as it stands before its own end, and does not write it (R290). -/
theorem rdregBody_status (index : U16) (s : State) : (rdregBody index s).2.status = s.status := by
  unfold rdregBody
  split <;> rfl

/-- Between the preamble and the end of a command only INIT writes `STATUS` (R31, R161). -/
theorem ownRule_status_of_not_init {i : Instr} (h : ¬ ∃ m sh, i = .init m sh) (s : State) :
    (ownRule i s).2.status = s.status := by
  cases i with
  | init m sh => exact absurd ⟨m, sh, rfl⟩ h
  | updcfg value mask => rw [ownRule, completes_snd, updcfgBody_eq]; rfl
  | rdbusv => rw [ownRule, completes_snd, rdbusvBody_eq]; rfl
  | rdshunt => rw [ownRule, completes_snd, rdshuntBody_eq]; rfl
  | rdcur => simp [ownRule, rdcurBody, readCurrentMa_eq]
  | rdpwr => simp [ownRule, rdpwrBody]
  | pwrsave enable => rw [ownRule, completes_snd, pwrsaveBody_eq]; rfl
  | reset => rw [ownRule, completes_snd, resetBody_eq]; rfl
  | btnsample => rw [ownRule, completes_snd, btnsampleBody_eq]; exact buttonStep_status s
  | rescalc mv => rfl
  | measure => exact measureStep_status s
  | cycle => exact cycleBody_status Config.orchWhileEnabled s
  | rdreg index => exact rdregBody_status index s

/-! ## What INIT can do (R161) -/

/-- Either INIT refuses its operands with no effect, or it loads the shadow with `STATUS` and both pins as they were, and
the acknowledge decides its end. -/
theorem initBody_cases (m sh : U16) (s : State) :
    initBody m sh s = (.calRange, s) ∨
    ∃ (ack : Ack) (u : State), initBody m sh s = concludeInit ack u ∧
      u.status = s.status ∧ u.probe = s.probe ∧ u.outEn = s.outEn := by
  cases h : calibrationFits m sh with
  | false => exact .inl (initBody_of_not_fits h s)
  | true => exact .inr ⟨ackAnswer 0 s, _, initBody_of_fits h s, rfl, rfl, rfl⟩

theorem initBody_probe (m sh : U16) (s : State) : (initBody m sh s).2.probe = s.probe := by
  obtain h | ⟨ack, u, h, -, hprobe, -⟩ := initBody_cases m sh s
  · rw [h]
  · rw [h, ← hprobe]
    cases ack <;> rfl

theorem initBody_outEn (m sh : U16) (s : State) : (initBody m sh s).2.outEn = s.outEn := by
  obtain h | ⟨ack, u, h, -, -, hout⟩ := initBody_cases m sh s
  · rw [h]
  · rw [h, ← hout]
    cases ack <;> rfl

/-- INIT writes `INIT_DONE` and `FATAL`, and leaves `ERR_SEEN` to the end of the command (R161, R301). -/
theorem initBody_errSeen (m sh : U16) (s : State) : errSeen (initBody m sh s).2.status = errSeen s.status := by
  obtain h | ⟨ack, u, h, hstatus, -, -⟩ := initBody_cases m sh s
  · rw [h]
  · rw [h, ← hstatus]
    cases ack <;> simp [concludeInit]

/-- INIT can raise `FATAL` and never clears it (R161, R305). -/
theorem initBody_keeps_fatal {s : State} (hf : fatalFlag s.status = true) (m sh : U16) :
    fatalFlag (initBody m sh s).2.status = true := by
  obtain h | ⟨ack, u, h, hstatus, -, -⟩ := initBody_cases m sh s
  · rw [h]
    exact hf
  · rw [← hstatus] at hf
    rw [h]
    cases ack <;> simp [concludeInit, hf]

/-! ## Before the end of a command (R301) -/

/-- No rule writes `ERR_SEEN`: it is left to the end of the command. -/
theorem ownRule_errSeen (i : Instr) (s : State) : errSeen (ownRule i s).2.status = errSeen s.status := by
  by_cases h : ∃ m sh, i = .init m sh
  · obtain ⟨m, sh, rfl⟩ := h
    exact initBody_errSeen m sh s
  · rw [ownRule_status_of_not_init h]

/-- INIT's two errors: CAL_RANGE comes before its writes, BUS_FAIL_INIT after them (R161). -/
theorem initBody_of_error {m sh : U16} {s : State} (hok : (initBody m sh s).1 ≠ .ok)
    (hbus : (initBody m sh s).1 ≠ .busFailInit) : (initBody m sh s).2 = s := by
  obtain h | ⟨ack, u, h, -⟩ := initBody_cases m sh s
  · rw [h]
  · rw [h] at hok hbus
    cases ack with
    | ok => exact absurd rfl hok
    | fail => exact absurd rfl hbus

/-- RDREG's one error is an index with no register (R94, R290). -/
theorem rdregBody_of_error {index : U16} {s : State} (hok : (rdregBody index s).1 ≠ .ok) :
    (rdregBody index s).2 = s := by
  unfold rdregBody at hok ⊢
  split at hok
  · exact absurd rfl hok
  · rfl

/-- The rules that can end with an error are INIT's and RDREG's, and but for BUS_FAIL_INIT they then have no effect. -/
theorem ownRule_of_error {i : Instr} {s : State} (hok : (ownRule i s).1 ≠ .ok)
    (hbus : (ownRule i s).1 ≠ .busFailInit) : (ownRule i s).2 = s := by
  cases i with
  | init m sh => exact initBody_of_error hok hbus
  | rdreg index => exact rdregBody_of_error hok
  | _ => exact absurd rfl hok

/-! ## Every command ends with its code (R301) -/

/-- The outcome is the end of a command with one code, from a state in which `ERR_SEEN` is still that of `a`, and which is
`a` itself if the code is an error other than BUS_FAIL_INIT. -/
def EndsWithCode (a : State) (o : Host.Outcome State Fault Refusal) : Prop :=
  ∃ (c : StatusCode) (u : State), o = .next (finish c u) ∧ errSeen u.status = errSeen a.status ∧
    (c ≠ .ok → c ≠ .busFailInit → u = a)

/-- A command that ends before its own rule. -/
theorem endsWithCode_finish (c : StatusCode) (a : State) : EndsWithCode a (.next (finish c a)) :=
  ⟨c, a, rfl, rfl, fun _ _ => rfl⟩

theorem exec_endsWithCode (i : Instr) (a : State) : EndsWithCode a (exec i a) := by
  rw [exec_eq_command]
  cases hp : preamble i a with
  | some c =>
    rw [command_stops hp]
    exact endsWithCode_finish c a
  | none =>
    rw [command_runs hp]
    exact ⟨_, _, rfl, ownRule_errSeen i a, ownRule_of_error⟩

theorem runWord_endsWithCode (w : CmdWord) (a : State) : EndsWithCode a (runWord w a exec) := by
  unfold runWord
  split
  · next i _ => exact exec_endsWithCode i a
  · exact endsWithCode_finish _ a

/-- Settles O9: an accepted word, legal or not, ends with one code, and the end of a command writes the fields of `STATUS`
from that code. -/
theorem everyCommandEndsWithItsCode : Obligations.EveryCommandEndsWithItsCode := by
  unfold Obligations.EveryCommandEndsWithItsCode
  intro s p rest hr hb
  obtain ⟨c, u, hend, herr, hraised⟩ := runWord_endsWithCode p.cmd (accept p rest s)
  refine ⟨c, finish c u, (step_of_presented hr hb).trans hend, lastCode_endStatus c u.status, ?_, rfl, fun hok hbus => ?_⟩
  · rw [finish_status, errSeen_endStatus, herr, accept_status]
  · rw [hraised hok hbus]
    rfl

/-! ## The fatal state (R305) -/

/-- The end of a command writes no `FATAL` (R301). -/
theorem faulted_finish_iff {c : StatusCode} {s : State} : (finish c s).faulted ↔ s.faulted := by
  simp [State.faulted]

theorem ownRule_keeps_faulted {s : State} (h : s.faulted) (i : Instr) : (ownRule i s).2.faulted := by
  by_cases hi : ∃ m sh, i = .init m sh
  · obtain ⟨m, sh, rfl⟩ := hi
    exact initBody_keeps_fatal h m sh
  · rwa [State.faulted, ownRule_status_of_not_init hi]

theorem exec_keeps_faulted {i : Instr} {s t : State} (h : s.faulted) (ht : exec i s = .next t) : t.faulted := by
  obtain ⟨c, -, rfl⟩ | ⟨-, rfl⟩ := exec_cases ht
  · exact faulted_finish_iff.mpr h
  · exact faulted_finish_iff.mpr (ownRule_keeps_faulted h i)

/-- No step leaves the fatal state: accepting a word leaves `FATAL` alone, and so does the end of an illegal word. -/
theorem step_keeps_faulted {s t : State} (h : s.faulted) (ht : step s = .next t) : t.faulted := by
  obtain ⟨rfl, -⟩ | ⟨p, rest, -, -, ⟨i, -, hexec⟩ | ⟨r, -, hill⟩⟩ := step_cases ht
  · exact h
  · have haccepted : (accept p rest s).faulted := h
    exact exec_keeps_faulted haccepted hexec
  · cases hill
    exact faulted_finish_iff.mpr h

/-- Check 1 of the preamble: while `FATAL` is 1 a word with any opcode but RDREG's ends with FATAL, legal or not (R302). -/
theorem runWord_of_faulted {w : CmdWord} {s : State} (h : s.faulted) (hop : opField w ≠ rdregOpcode) :
    runWord w s exec = .next (finish .fatal s) := by
  have hf : fatalFlag s.status = true := h
  unfold runWord
  split
  · next i hd =>
    have hpre : preamble i s = some .fatal := if_pos ⟨hf, opcode_of_decode hd ▸ hop⟩
    rw [exec_eq_command, command_stops hpre]
  · rw [illegalWord, if_pos ⟨hf, hop⟩]

/-- A command that turns an unfaulted state into a faulted one is an INIT that ran: the preamble raises no `FATAL`, and no
other rule writes it. -/
theorem init_of_raises_fatal {i : Instr} {s t : State} (hs : ¬ s.faulted) (ht : exec i s = .next t) (hfault : t.faulted) :
    ∃ m sh, i = .init m sh ∧ t = finish (initBody m sh s).1 (initBody m sh s).2 := by
  obtain ⟨c, -, rfl⟩ | ⟨-, rfl⟩ := exec_cases ht
  · exact absurd (faulted_finish_iff.mp hfault) hs
  · by_cases hi : ∃ m sh, i = .init m sh
    · obtain ⟨m, sh, rfl⟩ := hi
      exact ⟨m, sh, rfl, rfl⟩
    · have hrule : (ownRule i s).2.faulted := faulted_finish_iff.mp hfault
      rw [State.faulted, ownRule_status_of_not_init hi] at hrule
      exact absurd hrule hs

/-- Settles O11: no step clears `FATAL`, check 1 of the preamble turns the words away, and only INIT's rule writes the
flag, which drives no pin. -/
theorem fatalIsTerminal : Obligations.FatalIsTerminal := by
  unfold Obligations.FatalIsTerminal
  refine ⟨fun s t => step_keeps_faulted, fun s p rest hr hb hf hop => ?_, fun i s t hs ht hfault => ?_⟩
  · have haccepted : (accept p rest s).faulted := hf
    rw [step_of_presented hr hb, runWord_of_faulted haccepted hop]
    rfl
  · obtain ⟨m, sh, rfl, rfl⟩ := init_of_raises_fatal hs ht hfault
    exact ⟨⟨m, sh, rfl⟩, initBody_probe m sh s, initBody_outEn m sh s⟩

end Sys2Proof.Machine

/-! Proofs about the encoding (30_encoding.md R90 to R95): the decoder and the encoder are inverse to each other, and the match
and mask table describes the same set of words as the decoder.

A word is its three fields, so every fact is settled field by field: what a row of the opcode map decodes to gives its fields
back, and a row's mask cuts each field on its own. -/

namespace Sys2Proof

/-! ## The two directions of the round trip (R90 to R93) -/

/-- Settles O2: the fields of an encoded command are its opcode and operands, which its row of the map reads back. -/
theorem decodeInvertsEncode : Obligations.DecodeInvertsEncode := by
  unfold Obligations.DecodeInvertsEncode
  intro i
  rw [encode, decode_assembleWord]
  cases i with
  | pwrsave enable => exact decodePwrsave_operand enable
  | _ => rfl

/-- A field whose bits 15:1 are zero is one of PWRSAVE's two operands (R91, R93). -/
theorem pwrsave_operand_of_enableField {a : U16} (h : a.extractLsb' 1 15 = 0#15) :
    (if a.getLsbD 0 then 1#16 else 0#16) = a := by
  have hsmall : a.toNat / 2 = 0 := by
    have hnat := congrArg BitVec.toNat h
    have hlt := a.isLt
    simp [Nat.shiftRight_eq_div_pow] at hnat
    omega
  obtain h0 | h1 : a = 0#16 ∨ a = 1#16 := by bv_omega
  · rw [h0]; decide
  · rw [h1]; decide

/-- Each row of the opcode map reads its operands from the fields and asks for zero in the reserved ones (R92, R93). -/
theorem operands_of_decodeFields {op : Nat} {a b : U16} {i : Instr} (h : decodeFields op a b = .ok i) :
    i.operandA = a ∧ i.operandB = b := by
  unfold decodeFields at h
  split at h
  case h_1 => cases h; exact ⟨rfl, rfl⟩
  case h_2 => cases h; exact ⟨rfl, rfl⟩
  case h_7 =>
    obtain ⟨⟨rfl, ha⟩, rfl⟩ := decodePwrsave_ok.mp h
    exact ⟨pwrsave_operand_of_enableField ha, rfl⟩
  case h_10 => obtain ⟨rfl, rfl⟩ := decodeA_ok.mp h; exact ⟨rfl, rfl⟩
  case h_13 => obtain ⟨rfl, rfl⟩ := decodeA_ok.mp h; exact ⟨rfl, rfl⟩
  case h_14 => cases h
  all_goals
    obtain ⟨⟨rfl, rfl⟩, rfl⟩ := decodePlain_ok.mp h
    exact ⟨rfl, rfl⟩

/-- Settles O3: the command's opcode and operands are the word's fields, and a word is its fields. -/
theorem encodeInvertsDecode : Obligations.EncodeInvertsDecode := by
  unfold Obligations.EncodeInvertsDecode
  intro w i h
  obtain ⟨ha, hb⟩ := operands_of_decodeFields h
  rw [encode, opcode_of_decode h, ha, hb, assembleWord_fields]

/-- Settles O1: eleven closed words, each decoded by evaluation. -/
theorem writtenOutWordsDecode : Obligations.WrittenOutWordsDecode := by
  unfold Obligations.WrittenOutWordsDecode
  decide

/-! ## The match and mask table (R92, R95) -/

theorem opField_and (w m : CmdWord) : opField (w &&& m) = opField w &&& opField m := BitVec.extractLsb'_and
theorem aField_and (w m : CmdWord) : aField (w &&& m) = aField w &&& aField m := BitVec.extractLsb'_and
theorem bField_and (w m : CmdWord) : bField (w &&& m) = bField w &&& bField m := BitVec.extractLsb'_and

/-- A row matches a word when it matches in each field. -/
theorem matchesWord_iff {r : OpcodeRow} {w : CmdWord} :
    r.matchesWord w = true ↔
      opField w &&& opField r.mask = opField r.pattern ∧ aField w &&& aField r.mask = aField r.pattern ∧
        bField w &&& bField r.mask = bField r.pattern := by
  rw [← opField_and, ← aField_and, ← bField_and, OpcodeRow.matchesWord, beq_iff_eq]
  refine ⟨fun h => by simp only [h, and_self], fun ⟨ho, ha, hb⟩ => word_ext ho ha hb⟩

/-- Every mask covers `OP` in full (R92). -/
theorem opField_mask : ∀ q ∈ opcodeTable, opField q.mask = BitVec.allOnes 8 := by
  decide

/-- A row fixes the opcode of the words it matches. -/
theorem opField_of_matchesWord {q : OpcodeRow} (hq : q ∈ opcodeTable) {w : CmdWord} (h : q.matchesWord w = true) :
    opField w = opField q.pattern := by
  obtain ⟨ho, -, -⟩ := matchesWord_iff.mp h
  rwa [opField_mask q hq, BitVec.and_allOnes] at ho

/-- A row is determined by its opcode. -/
theorem row_eq_of_opField_eq :
    ∀ q ∈ opcodeTable, ∀ r ∈ opcodeTable, opField q.pattern = opField r.pattern → q = r := by
  decide

/-- The row of the opcode map that a command stands in (R92). -/
def Instr.row : Instr → OpcodeRow
  | .init _ _ => ⟨"INIT", 0xFF00000000, 0x0100000000⟩
  | .updcfg _ _ => ⟨"UPDCFG", 0xFF00000000, 0x0200000000⟩
  | .rdbusv => ⟨"RDBUSV", 0xFFFFFFFFFF, 0x0300000000⟩
  | .rdshunt => ⟨"RDSHUNT", 0xFFFFFFFFFF, 0x0400000000⟩
  | .rdcur => ⟨"RDCUR", 0xFFFFFFFFFF, 0x0500000000⟩
  | .rdpwr => ⟨"RDPWR", 0xFFFFFFFFFF, 0x0600000000⟩
  | .pwrsave _ => ⟨"PWRSAVE", 0xFFFFFEFFFF, 0x0700000000⟩
  | .reset => ⟨"RESET", 0xFFFFFFFFFF, 0x0800000000⟩
  | .btnsample => ⟨"BTNSAMPLE", 0xFFFFFFFFFF, 0x0900000000⟩
  | .rescalc _ => ⟨"RESCALC", 0xFF0000FFFF, 0x0A00000000⟩
  | .measure => ⟨"MEASURE", 0xFFFFFFFFFF, 0x0B00000000⟩
  | .cycle => ⟨"CYCLE", 0xFFFFFFFFFF, 0x0C00000000⟩
  | .rdreg _ => ⟨"RDREG", 0xFF0000FFFF, 0x0D00000000⟩

theorem row_mem_opcodeTable (i : Instr) : i.row ∈ opcodeTable := by
  cases i <;> simp [Instr.row, opcodeTable]

theorem mnemonic_row (i : Instr) : i.row.mnemonic = i.mnemonic := by
  cases i <;> rfl

theorem opField_pattern_row (i : Instr) : opField i.row.pattern = i.opcode := by
  cases i with
  | init _ _ => show opField 0x0100000000 = 0x01#8; decide
  | updcfg _ _ => show opField 0x0200000000 = 0x02#8; decide
  | pwrsave _ => show opField 0x0700000000 = 0x07#8; decide
  | rescalc _ => show opField 0x0A00000000 = 0x0A#8; decide
  | rdreg _ => show opField 0x0D00000000 = 0x0D#8; decide
  | _ => decide

/-- Every row asks for zero in the operand fields that its mask keeps (R92). -/
theorem operands_of_row_pattern : ∀ q ∈ opcodeTable, aField q.pattern = 0#16 ∧ bField q.pattern = 0#16 := by
  decide

/-- Where a row reads an operand its mask is zero, and where it reserves a field the command's operand is. -/
theorem operands_and_row_mask (i : Instr) :
    i.operandA &&& aField i.row.mask = 0#16 ∧ i.operandB &&& bField i.row.mask = 0#16 := by
  have unmasked (x : U16) {m : U16} (hm : m = 0#16) : x &&& m = 0#16 := by rw [hm, BitVec.and_zero]
  have hA : aField 0xFF00000000 = 0#16 ∧ aField 0xFF0000FFFF = 0#16 := by decide
  have hB : bField 0xFF00000000 = 0#16 := by decide
  cases i with
  | init imax rshunt => exact ⟨unmasked imax hA.1, unmasked rshunt hB⟩
  | updcfg value mask => exact ⟨unmasked value hA.1, unmasked mask hB⟩
  | rescalc mv => exact ⟨unmasked mv hA.2, BitVec.zero_and⟩
  | rdreg index => exact ⟨unmasked index hA.2, BitVec.zero_and⟩
  | pwrsave enable => cases enable <;> decide
  | _ => decide

theorem matchesWord_row_encode (i : Instr) : i.row.matchesWord (encode i) = true := by
  obtain ⟨ho, ha, hb⟩ := Laws.EncodedFields.of_any i
  obtain ⟨hpa, hpb⟩ := operands_of_row_pattern i.row (row_mem_opcodeTable i)
  rw [matchesWord_iff, ho, ha, hb, hpa, hpb, opField_pattern_row, opField_mask i.row (row_mem_opcodeTable i),
    BitVec.and_allOnes]
  exact ⟨rfl, operands_and_row_mask i⟩

/-- Of an operand field whose bits 15:1 a row fixes at zero, those bits are zero (the row of PWRSAVE). -/
theorem enableField_of_and {a : U16} (h : a &&& 0xFFFE#16 = 0#16) : a.extractLsb' 1 15 = 0#15 := by
  calc a.extractLsb' 1 15 = a.extractLsb' 1 15 &&& (0xFFFE#16).extractLsb' 1 15 := BitVec.and_allOnes.symm
    _ = (a &&& 0xFFFE#16).extractLsb' 1 15 := BitVec.extractLsb'_and.symm
    _ = 0#15 := by rw [h]; rfl

namespace Machine

/-- The rows' opcodes lie in the map, their reserved fields are masked in full, and every pattern asks for zero there, so no
clause of R93 holds of a word that a row matches. -/
theorem not_illegalByFields_of_matchesWord {q : OpcodeRow} (hq : q ∈ opcodeTable) {w : CmdWord}
    (h : q.matchesWord w = true) : ¬ illegalByFields w := by
  have hrange : ∀ q ∈ opcodeTable, (opField q.pattern).toNat ≠ 0 ∧ (opField q.pattern).toNat < 0x0E := by decide
  have hmaskA : ∀ q ∈ opcodeTable, (opField q.pattern).toNat ∈ [0x03, 0x04, 0x05, 0x06, 0x08, 0x09, 0x0B, 0x0C] →
      aField q.mask = BitVec.allOnes 16 := by decide
  have hmaskB : ∀ q ∈ opcodeTable,
      (opField q.pattern).toNat ∈ [0x03, 0x04, 0x05, 0x06, 0x07, 0x08, 0x09, 0x0A, 0x0B, 0x0C, 0x0D] →
      bField q.mask = BitVec.allOnes 16 := by decide
  have hmaskEnable : ∀ q ∈ opcodeTable, (opField q.pattern).toNat = 0x07 → aField q.mask = 0xFFFE#16 := by decide
  obtain ⟨-, ha, hb⟩ := matchesWord_iff.mp h
  rw [(operands_of_row_pattern q hq).1] at ha
  rw [(operands_of_row_pattern q hq).2] at hb
  rw [illegalByFields, opField_of_matchesWord hq h]
  rintro ((h0 | h14) | ⟨hop, hne⟩ | ⟨hop, hne⟩ | ⟨hop, hne⟩)
  · exact (hrange q hq).1 h0
  · exact absurd (hrange q hq).2 (Nat.not_lt.mpr h14)
  · exact hne (by rwa [hmaskA q hq hop, BitVec.and_allOnes] at ha)
  · exact hne (by rwa [hmaskB q hq hop, BitVec.and_allOnes] at hb)
  · exact hne (enableField_of_and (by rwa [hmaskEnable q hq hop] at ha))

/-- A word that decodes is matched by its command's row (R92). -/
theorem matchesWord_row_of_decode {w : CmdWord} {i : Instr} (h : decode w = .ok i) : i.row.matchesWord w = true := by
  rw [← encodeInvertsDecode w i h]
  exact matchesWord_row_encode i

/-- Settles O4: a word that decodes is matched by its command's row and, since rows differ in `OP`, by no other; a word that
does not decode breaks a clause of R93, which no row's words do. -/
theorem decodingIsTotalAndUnambiguous : Obligations.DecodingIsTotalAndUnambiguous := by
  unfold Obligations.DecodingIsTotalAndUnambiguous
  refine ⟨fun w => ?_, by decide⟩
  cases hd : decode w with
  | ok i =>
    have hrow := matchesWord_row_of_decode hd
    refine .inl ⟨i, i.row, rfl, row_mem_opcodeTable i, hrow, mnemonic_row i, fun q hq hmatch => ?_, ?_⟩
    · refine row_eq_of_opField_eq q hq i.row (row_mem_opcodeTable i) ?_
      rw [← opField_of_matchesWord hq hmatch, ← opField_of_matchesWord (row_mem_opcodeTable i) hrow]
    · exact not_illegalByFields_of_matchesWord (row_mem_opcodeTable i) hrow
  | error e =>
    have hill : illegalByFields w := (decode_error_iff_illegalByFields w).mp ⟨e, hd⟩
    refine .inr ⟨⟨e, rfl⟩, hill, fun q hq => Bool.eq_false_iff.mpr fun hmatch => ?_⟩
    exact not_illegalByFields_of_matchesWord hq hmatch hill

end Machine

end Sys2Proof

/-! Proofs about one step and the order of its checks (00_scope.md R10; 60_exceptions.md R300 to R302): an accepted word goes
through check 1, then the decoder, then check 3, and its end writes `STATUS` field by field. -/

namespace Sys2Proof.Machine

/-! ## Accepting a word, or idling (R38, R316) -/

/-- Settles O6: a ready block with a word on the port accepts it, and a word that decodes is run. -/
theorem stepRunsPresentedCommand : Obligations.StepRunsPresentedCommand := by
  unfold Obligations.StepRunsPresentedCommand
  intro s p rest i hr hb hd
  rw [step_of_presented hr hb, runWord, hd]
  rfl

/-- Settles O7: a step with no word on the port, or while `READY` is 0, takes none of its branches that accept. -/
theorem stepIdlesWithoutCommand : Obligations.StepIdlesWithoutCommand := by
  unfold Obligations.StepIdlesWithoutCommand
  rintro s (hb | hr)
  · simp [step, hb]
  · unfold step
    split
    · rfl
    · simp [hr]

/-! ## The order of the checks (R302) -/

/-- The column "needs INIT_DONE" of a command is that of its opcode (R92). -/
theorem needsInit_iff_opNeedsInit (i : Instr) : i.needsInit = true ↔ opNeedsInit i.opcode := by
  cases i <;> simp [Instr.needsInit, Instr.opcode, opNeedsInit]

/-- A word that breaks no clause of R93 decodes, to a command of its opcode. -/
theorem decode_of_not_illegalByFields {w : CmdWord} (h : ¬ illegalByFields w) :
    ∃ i, decode w = .ok i ∧ i.opcode = opField w := by
  cases hd : decode w with
  | ok i => exact ⟨i, rfl, opcode_of_decode hd⟩
  | error e => exact absurd ((decode_error_iff_illegalByFields w).mp ⟨e, hd⟩) h

/-- Past check 1 a command that needs `INIT_DONE` fails check 3 while it is 0. -/
theorem preamble_eq_notInit {i : Instr} {s : State} (hf : fatalFlag s.status = false ∨ i.opcode = rdregOpcode)
    (hn : i.needsInit = true) (hi : initDone s.status = false) : preamble i s = some .notInit := by
  have hpast : ¬ (fatalFlag s.status = true ∧ i.opcode ≠ rdregOpcode) := by
    rintro ⟨hfatal, hop⟩
    exact hf.elim (fun hclear => by simp [hclear] at hfatal) hop
  rw [preamble, if_neg hpast, if_pos ⟨hn, hi⟩]

/-- Settles O8: check 1 turns a word away before it is decoded, the decoder turns away R93's words, and the preamble of the
decoded command makes check 3. -/
theorem preambleChecksInOrder : Obligations.PreambleChecksInOrder := by
  unfold Obligations.PreambleChecksInOrder
  intro s p rest hr hb a op passesFatal
  rw [step_of_presented hr hb]
  refine ⟨fun hf hop => ?_, fun hpast hill => ?_, fun hpast hleg hn hi => ?_, fun hpast hleg hn => ?_⟩
  · exact runWord_of_faulted (s := a) hf hop
  · obtain ⟨r, hd⟩ := (decode_error_iff_illegalByFields p.cmd).mpr hill
    have hcheck : ¬ (fatalFlag a.status = true ∧ op ≠ rdregOpcode) := by
      rintro ⟨hfatal, hop⟩
      exact hpast.elim (fun hclear => Bool.false_ne_true (hclear.symm.trans hfatal)) hop
    rw [runWord_of_error hd]
    exact congrArg (fun c => Host.Outcome.next (finish c a)) (if_neg hcheck)
  · obtain ⟨i, hd, hop⟩ := decode_of_not_illegalByFields hleg
    have hstop : preamble i a = some .notInit :=
      preamble_eq_notInit (hop ▸ hpast) ((needsInit_iff_opNeedsInit i).mpr (hop ▸ hn)) hi
    calc runWord p.cmd a exec = exec i a := by rw [runWord, hd]
      _ = .next (finish .notInit a) := by rw [exec_eq_command, command_stops hstop]
  · obtain ⟨i, hd, hop⟩ := decode_of_not_illegalByFields hleg
    refine ⟨i, hd, hop, preamble_eq_none.mpr ⟨hop ▸ hpast, fun hneeds => ?_⟩, by rw [runWord, hd]; rfl⟩
    have hopcode : opNeedsInit i.opcode := (needsInit_iff_opNeedsInit i).mp hneeds
    rw [hop] at hopcode
    exact hn hopcode

/-! ## The fields of STATUS at the end of a command (R300, R301) -/

/-- The end of a command leaves the bits outside `ERR_SEEN` and `LAST_CODE`. -/
theorem getLsbD_endStatus {k : Nat} (h : k < 16) (h2 : k ≠ 2) (hcode : ¬ (4 ≤ k ∧ k < 8)) (c : StatusCode) (w : U16) :
    (endStatus c w).getLsbD k = w.getLsbD k := by
  have hset : (setLastCode c.code w).getLsbD k = w.getLsbD k := by rw [getLsbD_setLastCode _ _ _ h, if_neg hcode]
  unfold endStatus
  split
  · exact hset
  · rw [setErrSeen, getLsbD_withBit _ _ _ _ h, if_neg h2, hset]

/-- Settles O10: the laws of the two fields that are written, and the bits outside them. -/
theorem statusFieldsAtTheEnd : Obligations.StatusFieldsAtTheEnd := by
  unfold Obligations.StatusFieldsAtTheEnd
  refine ⟨⟨rfl, rfl, rfl, rfl, rfl, rfl⟩, fun c w => ?_⟩
  refine ⟨lastCode_endStatus c w, errSeen_endStatus c w, fun k hk => ?_⟩
  by_cases hin : k < 16
  · exact getLsbD_endStatus hin (by omega) (by omega) c w
  · rw [BitVec.getLsbD_of_ge _ _ (by omega), BitVec.getLsbD_of_ge _ _ (by omega)]

end Sys2Proof.Machine

/-! Proofs about the calibration value (41_calibration_restore.md R160 to R164): which operands INIT refuses, the rounding, and
the product identity. -/

namespace Sys2Proof.Machine

/-! ## The rounding (R162) -/

/-- The rounded quotient is the quotient plus one half, rounded down. -/
theorem roundDiv_eq_floor (n : Nat) {d : Nat} (hd : 0 < d) :
    (roundDiv n d : Int) = ⌊(n : ℚ) / (d : ℚ) + 1 / 2⌋ := by
  have hd' : (d : ℚ) ≠ 0 := by exact_mod_cast hd.ne'
  have hsum : (n : ℚ) / (d : ℚ) + 1 / 2 = ((2 * n + d : Nat) : ℚ) / ((2 * d : Nat) : ℚ) := by
    push_cast
    field_simp
  rw [hsum, Rat.floor_natCast_div_natCast, roundDiv]
  norm_cast

/-- Rounding moves a quotient by at most one half. -/
theorem abs_roundDiv_sub_le (n : Nat) {d : Nat} (hd : 0 < d) :
    |(roundDiv n d : ℚ) - (n : ℚ) / (d : ℚ)| ≤ 1 / 2 := by
  have hcast : (roundDiv n d : ℚ) = (⌊(n : ℚ) / (d : ℚ) + 1 / 2⌋ : ℚ) := by exact_mod_cast roundDiv_eq_floor n hd
  have hlow := Int.floor_le ((n : ℚ) / (d : ℚ) + 1 / 2)
  have hhigh := Int.lt_floor_add_one ((n : ℚ) / (d : ℚ) + 1 / 2)
  rw [hcast, abs_le]
  constructor <;> linarith

/-- Non-zero operands have a product from 1 to `65535 * 65535`. -/
theorem operands_product_range {m sh : U16} (hm : m ≠ 0#16) (hsh : sh ≠ 0#16) :
    0 < m.toNat * sh.toNat ∧ m.toNat * sh.toNat ≤ 65535 * 65535 := by
  have hm0 : 0 < m.toNat := by bv_omega
  have hs0 : 0 < sh.toNat := by bv_omega
  exact ⟨Nat.mul_pos hm0 hs0, Nat.mul_le_mul (Nat.le_of_lt_succ m.isLt) (Nat.le_of_lt_succ sh.isLt)⟩

/-- A tie needs the power 2 ^ 32 of twice the numerator as a divisor of the product of the operands, since the other factor
is odd; and the product is below it. -/
theorem no_tie {d : Nat} (hpos : 0 < d) (hlt : d < 2 ^ 32) (k : Int) :
    (1342177280000 : ℚ) / (d : ℚ) ≠ (k : ℚ) + 1 / 2 := by
  intro h
  have hd : (d : ℚ) ≠ 0 := by exact_mod_cast hpos.ne'
  have hprod : (2 ^ 32 * 625 : Int) = (2 * k + 1) * (d : Int) := by
    rw [div_eq_iff hd] at h
    have hrat : (2 ^ 32 * 625 : ℚ) = (2 * (k : ℚ) + 1) * (d : ℚ) := by linarith
    exact_mod_cast hrat
  have hodd : IsCoprime (2 ^ 32 : Int) (2 * k + 1) := IsCoprime.pow_left ⟨-k, 1, by ring⟩
  have hdvd : (2 ^ 32 : Int) ∣ (d : Int) := hodd.dvd_of_dvd_mul_left ⟨625, hprod.symm⟩
  exact absurd (Int.le_of_dvd (by exact_mod_cast hpos) hdvd) (by exact_mod_cast Nat.not_le.mpr hlt)

/-- Settles O14: the rounding for every positive divisor, and the parity of 2 ^ 32 * 625 for the ties. -/
theorem roundingHasNoTie : Obligations.RoundingHasNoTie := by
  unfold Obligations.RoundingHasNoTie
  refine ⟨fun n d hd => roundDiv_eq_floor n hd, fun m sh k hm hsh => ?_⟩
  obtain ⟨hpos, hle⟩ := operands_product_range hm hsh
  rw [← Nat.cast_mul]
  exact no_tie hpos (by omega) k

/-! ## The range of the calibration value (R163) -/

/-- The value exceeds 65535 exactly for the products up to 20480156. -/
theorem calibrationOf_gt_iff {m sh : U16} (hm : m ≠ 0#16) (hsh : sh ≠ 0#16) :
    65535 < calibrationOf m sh ↔ m.toNat * sh.toNat ≤ 20480156 := by
  obtain ⟨hpos, -⟩ := operands_product_range hm hsh
  rw [calibrationOf_eq, ← Nat.succ_le_iff, Nat.le_div_iff_mul_le (by omega)]
  omega

theorem le_calibrationOf {m sh : U16} (hm : m ≠ 0#16) (hsh : sh ≠ 0#16) : 313 ≤ calibrationOf m sh := by
  obtain ⟨hpos, hle⟩ := operands_product_range hm hsh
  rw [calibrationOf_eq, Nat.le_div_iff_mul_le (by omega)]
  omega

/-- INIT's code is CAL_RANGE exactly when its operands do not fit. -/
theorem initBody_fst_eq_calRange_iff {m sh : U16} {s : State} :
    (initBody m sh s).1 = .calRange ↔ calibrationFits m sh = false := by
  cases hfit : calibrationFits m sh with
  | false => simp [initBody_of_not_fits hfit]
  | true =>
    rw [initBody_of_fits hfit]
    cases ackAnswer 0 s <;> simp [concludeInit]

/-- Settles O13: both bounds are linear in the product of the operands, and the code in `LAST_CODE` tells an INIT that refused
from one that ran. -/
theorem calibrationRangeIsProductBound : Obligations.CalibrationRangeIsProductBound := by
  unfold Obligations.CalibrationRangeIsProductBound
  refine ⟨fun m sh hm hsh => ⟨calibrationOf_gt_iff hm hsh, le_calibrationOf hm hsh⟩, by decide, fun m sh s hf => ?_⟩
  have hcases : m = 0#16 ∨ sh = 0#16 ∨ 65535 < calibrationOf m sh ∨ calibrationOf m sh = 0 ↔
      calibrationFits m sh = false := by
    rw [calibrationFits_eq_false_iff, or_comm (a := 65535 < _)]
  rw [hcases, exec_init_of_not_fatal hf]
  refine ⟨fun hend => ?_, fun hfit => by rw [initBody_of_not_fits hfit]; rfl⟩
  injection hend with hstate
  have hcode : (initBody m sh s).1.code = StatusCode.calRange.code := by
    simpa using congrArg (fun t => lastCode t.status) hstate
  exact initBody_fst_eq_calRange_iff.mp (code_injective hcode)

/-! ## The product identity (R164) -/

/-- An INIT that ended with OK had operands that fit, and left their calibration value in the shadow. -/
theorem calValue_of_init_ok {m sh : U16} {s t : State} (h : exec (.init m sh) s = .next t)
    (hok : lastCode t.status = StatusCode.ok.code) :
    calibrationFits m sh = true ∧ t.calValue.toNat = calibrationOf m sh := by
  obtain ⟨c, hp, rfl⟩ | ⟨-, rfl⟩ := exec_cases h
  · have hcode : c = .ok := code_injective (by simpa using hok)
    rw [hcode] at hp
    obtain ⟨hc, -⟩ | ⟨hc, -⟩ := preamble_eq_some hp <;> cases hc
  · have hcode : (initBody m sh s).1 = .ok := code_injective (by simpa [ownRule] using hok)
    cases hfit : calibrationFits m sh with
    | false => rw [initBody_of_not_fits hfit] at hcode; cases hcode
    | true =>
      obtain ⟨-, -, -, hle⟩ := calibrationFits_iff.mp hfit
      refine ⟨rfl, ?_⟩
      rw [finish_calValue, ownRule, initBody_of_fits hfit]
      cases ackAnswer 0 s <;> exact Nat.mod_eq_of_lt (Nat.lt_succ_of_le hle)

/-- Settles O15: `e` is what the rounding added to the exact quotient, so both sides are the same product. -/
theorem calibrationProductIdentity : Obligations.CalibrationProductIdentity := by
  unfold Obligations.CalibrationProductIdentity
  intro m sh s t h hok
  obtain ⟨hfit, hcal⟩ := calValue_of_init_ok h hok
  obtain ⟨hm, hsh, -, -⟩ := calibrationFits_iff.mp hfit
  obtain ⟨hpos, -⟩ := operands_product_range hm hsh
  have hround := abs_roundDiv_sub_le (Config.calK * Config.curDiv) hpos
  have hm0 : (m.toNat : ℚ) ≠ 0 := by exact_mod_cast (Nat.pos_of_mul_pos_right hpos).ne'
  have hs0 : (sh.toNat : ℚ) ≠ 0 := by exact_mod_cast (Nat.pos_of_mul_pos_left hpos).ne'
  rw [hcal, calibrationOf]
  refine ⟨_, hround, ?_, ?_⟩
  all_goals
    push_cast [Config.calK, Config.curDiv]
    field_simp
    ring

end Sys2Proof.Machine

/-! Proofs about the restore protocol's bounds (41_calibration_restore.md R171), the two commands that read through it (R180,
R181), and the width of every result (10_state.md R26). -/

namespace Sys2Proof.Machine

/-! ## Counting the events of a turn (R171) -/

@[simp] theorem countEvents_append (f : Event → Bool) (xs ys : List Event) :
    countEvents f (xs ++ ys) = countEvents f xs + countEvents f ys := by
  simp [countEvents]

@[simp] theorem countEvents_nil (f : Event → Bool) : countEvents f [] = 0 := rfl

@[simp] theorem countEvents_cons (f : Event → Bool) (e : Event) (es : List Event) :
    countEvents f (e :: es) = (if f e then 1 else 0) + countEvents f es := by
  cases h : f e <;> simp [countEvents, h, Nat.add_comm]

/-- What R171 bounds in the events of a restore loop with `n` restores left. -/
structure RestoreBounds (ptr : Byte) (n : Nat) (es : List Event) : Prop where
  reads : countEvents Event.isRead es ≤ 2 * (n + 1)
  pointerWaits : countEvents (Event.isWait .ptrRead) es = countEvents Event.isRead es
  writes : countEvents Event.isWrite es ≤ 2 * n
  convWaits : countEvents (Event.isWait .conv) es ≤ n
  readsOf : ptr ≠ Config.ptrCal →
    countEvents (Event.isReadOf ptr) es ≤ n + 1 ∧ countEvents (Event.isReadOf Config.ptrCal) es ≤ n + 1

/-- A read of `ptr`, which may end the loop. -/
theorem restoreBounds_reading (ptr : Byte) (n : Nat) (v : U16) : RestoreBounds ptr n (readEvents ptr v) := by
  constructor
  case reads => simp [readEvents, Event.isRead]; omega
  case readsOf => intro hne; simp [readEvents, Event.isReadOf, hne]
  all_goals simp [readEvents, Event.isRead, Event.isWrite, Event.isWait]

/-- A read of `ptr` and one of the calibration register, which may end the loop. -/
theorem restoreBounds_zero (ptr : Byte) (n : Nat) (v c : U16) :
    RestoreBounds ptr n (readEvents ptr v ++ readEvents Config.ptrCal c) := by
  constructor
  case readsOf => intro hne; simp [readEvents, Event.isReadOf, hne, Ne.symm hne]
  all_goals simp [readEvents, Event.isRead, Event.isWrite, Event.isWait]

/-- A turn that restores costs two reads, two writes and one conversion wait. -/
theorem RestoreBounds.afterRestore {ptr : Byte} {n : Nat} {es : List Event} (h : RestoreBounds ptr n es) (s : State)
    (v c : U16) (a0 a1 : Ack) :
    RestoreBounds ptr (n + 1)
      (readEvents ptr v ++ readEvents Config.ptrCal c ++ restoreEvents s a0 a1 ++ es) := by
  obtain ⟨hreads, hpointer, hwrites, hconv, hreadsOf⟩ := h
  constructor
  case reads => simp [readEvents, restoreEvents, Event.isRead]; omega
  case pointerWaits => simp [readEvents, restoreEvents, Event.isRead, Event.isWait, hpointer]
  case writes => simp [readEvents, restoreEvents, Event.isWrite]; omega
  case convWaits => simp [readEvents, restoreEvents, Event.isWait]; omega
  case readsOf =>
    intro hne
    obtain ⟨hp, hc⟩ := hreadsOf hne
    simp [readEvents, restoreEvents, Event.isReadOf, hne, Ne.symm hne]
    omega

/-- The loop within its bounds, by induction on the restores that are left: each way a turn can go is one of the three. -/
theorem readWithRestore_bounds (ptr : Byte) (n : Nat) (s : State) :
    ∃ es, (readWithRestore ptr n s).2.trace = s.trace ++ es ∧ RestoreBounds ptr n es := by
  induction n generalizing s with
  | zero =>
    by_cases h0 : readAnswer 0 s = 0#16
    · exact ⟨_, by rw [readWithRestore_of_zero h0 (.inl rfl), List.append_assoc], restoreBounds_zero ptr 0 _ _⟩
    · exact ⟨_, by rw [readWithRestore_of_reading h0], restoreBounds_reading ptr 0 _⟩
  | succ n ih =>
    by_cases h0 : readAnswer 0 s = 0#16
    · by_cases h1 : readAnswer 1 s = 0#16
      · rw [readWithRestore_of_restore h0 h1]
        obtain ⟨es, htrace, hes⟩ := ih { takeAcks 2 (takeReads 2 s) with
          trace := s.trace ++ readEvents ptr 0#16 ++ readEvents Config.ptrCal 0#16 ++
            restoreEvents s (ackAnswer 0 s) (ackAnswer 1 s) }
        refine ⟨_, ?_, hes.afterRestore s 0#16 0#16 (ackAnswer 0 s) (ackAnswer 1 s)⟩
        rw [htrace]
        simp only [List.append_assoc]
      · exact ⟨_, by rw [readWithRestore_of_zero h0 (.inr h1), List.append_assoc], restoreBounds_zero ptr _ _ _⟩
    · exact ⟨_, by rw [readWithRestore_of_reading h0], restoreBounds_reading ptr _ _⟩

/-- Settles O22: the bounds of the loop, read off from `RestoreBounds`. -/
theorem restoreLoopIsBounded : Obligations.RestoreLoopIsBounded := by
  unfold Obligations.RestoreLoopIsBounded
  refine ⟨rfl, fun ptr n s => ?_⟩
  obtain ⟨es, htrace, hes⟩ := readWithRestore_bounds ptr n s
  exact ⟨es, htrace, hes.reads, hes.pointerWaits, hes.writes, hes.convWaits, hes.readsOf⟩

/-! ## RDCUR and RDPWR (R180, R181) -/

theorem restoredReading_frame (ptr : Byte) (s : State) :
    (restoredReading ptr s).2.status = s.status ∧ (restoredReading ptr s).2.maxCurrentMa = s.maxCurrentMa := by
  obtain ⟨r, rd, a, ad, tr, h⟩ := readWithRestore_changes ptr Config.maxRetry s
  rw [← restoreProtocolCases ptr s, h]
  exact ⟨rfl, rfl⟩

theorem rdcurBody_eq (s : State) :
    rdcurBody s =
      setResult .currentMa ((restoredReading Config.ptrCurrent s).1.toInt * (s.maxCurrentMa.toNat : Int)) 32768
        (restoredReading Config.ptrCurrent s).2 := by
  rw [rdcurBody, readCurrentMa_eq, restoreProtocolCases]
  rfl

theorem rdpwrBody_eq (s : State) :
    rdpwrBody s =
      setResult .powerMw (((restoredReading Config.ptrPower s).1.toNat * 20 * s.maxCurrentMa.toNat : Nat) : Int) 32768
        (restoredReading Config.ptrPower s).2 := by
  rw [rdpwrBody, restoreProtocolCases, ← (restoredReading_frame Config.ptrPower s).2]
  rfl

/-- Settles O23: RDCUR's rule over the closed form of the restore protocol, which leaves `STATUS` to the end. -/
theorem rdcurReadsSignedCurrent : Obligations.RdcurReadsSignedCurrent := by
  unfold Obligations.RdcurReadsSignedCurrent
  intro s hf hi r
  rw [exec_eq_finish_ok hf hi (f := rdcurBody) rfl, rdcurBody_eq, finish, setResult_status,
    (restoredReading_frame Config.ptrCurrent s).1]
  rfl

/-- Settles O24: RDPWR's rule over the closed form of the restore protocol; the natural number is narrowed as it is. -/
theorem rdpwrReadsUnsignedPower : Obligations.RdpwrReadsUnsignedPower := by
  unfold Obligations.RdpwrReadsUnsignedPower
  intro s hf hi r
  rw [exec_eq_finish_ok hf hi (f := rdpwrBody) rfl, rdpwrBody_eq, finish, setResult_status,
    (restoredReading_frame Config.ptrPower s).1, setResult, BitVec.ofInt_natCast]

/-! ## The width of the results (R26; log 26) -/

/-- An integer within the range of an s64 survives the narrowing into `RES_NUM`. -/
theorem toInt_ofInt_64 {n : Int} (hlow : -2 ^ 63 ≤ n) (hhigh : n < 2 ^ 63) : (BitVec.ofInt 64 n).toInt = n :=
  BitVec.toInt_ofInt_eq_self (by decide) hlow hhigh

/-- The signed reading of a register lies within the range of an s16 (R8). -/
theorem toInt_range_16 (raw : U16) : -32768 ≤ raw.toInt ∧ raw.toInt ≤ 32767 :=
  ⟨BitVec.le_toInt raw, Int.le_of_lt_add_one BitVec.toInt_lt⟩

theorem abs_current_le (raw m : U16) : |raw.toInt * (m.toNat : Int)| ≤ 32768 * 65535 := by
  obtain ⟨hlow, hhigh⟩ := toInt_range_16 raw
  have hraw : |raw.toInt| ≤ 32768 := abs_le.mpr ⟨hlow, by omega⟩
  have hm : |(m.toNat : Int)| ≤ 65535 := by
    rw [Nat.abs_cast]
    exact_mod_cast Nat.le_of_lt_succ m.isLt
  rw [abs_mul]
  exact mul_le_mul hraw hm (abs_nonneg _) (by decide)

theorem power_le (raw m : U16) : raw.toNat * 20 * m.toNat ≤ 85896724500 :=
  Nat.mul_le_mul (Nat.mul_le_mul_right 20 (Nat.le_of_lt_succ raw.isLt)) (Nat.le_of_lt_succ m.isLt)

/-- The calculator's values: 0, the sentinel, or the divider's numerator and denominator, range by range (R231). -/
theorem resistanceOf_fits (v : Nat) :
    (BitVec.ofInt 64 (resistanceOf v).2.1).toInt = (resistanceOf v).2.1 ∧
    (BitVec.ofNat 32 (resistanceOf v).2.2).toNat = (resistanceOf v).2.2 := by
  by_cases hshort : v < 2
  · rw [resistanceOf_short hshort]; decide
  · by_cases hopen : 5000 ≤ v
    · rw [resistanceOf_open hopen]; decide
    · have hnum : 1000 * v < 2 ^ 63 := by omega
      have hden : 5016 - v < 2 ^ 32 := by omega
      rw [resistanceOf_between (by omega) (by omega)]
      refine ⟨toInt_ofInt_64 ?_ (Int.ofNat_lt.mpr hnum), Nat.mod_eq_of_lt hden⟩
      exact Int.le_trans (by decide) (Int.natCast_nonneg _)

/-- Every host register has at most 32 bits (R33). -/
theorem hostRegister_lt {index v : Nat} {s : State} (h : hostRegister index s = some v) : v < 2 ^ 32 := by
  have wide (x : U16) : x.toNat < 2 ^ 32 := Nat.lt_trans x.isLt (by decide)
  unfold hostRegister at h
  split at h
  case h_1 => cases h; exact wide (readStatus s.status)
  case h_2 => cases h; exact wide s.calValue
  case h_3 => cases h; exact wide s.configWord
  case h_4 => cases h; exact wide s.maxCurrentMa
  case h_5 => cases h; exact wide s.shuntMohm
  case h_6 => cases h; exact wide s.pushDuration
  case h_7 => cases h; exact s.lastSampleTime.isLt
  case h_8 =>
    cases h
    have hp := Bool.toNat_le s.probe
    have ho := Bool.toNat_le s.outEn
    have hg := Bool.toNat_le s.gateEnabled
    have hn := Bool.toNat_le s.normState
    rw [pinsWord]
    omega
  case h_9 => cases h

/-- Settles O25: each kind of result by its own range, each within the signed 64 and the unsigned 32 bits. -/
theorem resultsFitTheirRegisters : Obligations.ResultsFitTheirRegisters := by
  unfold Obligations.ResultsFitTheirRegisters
  refine ⟨fun raw => ?_, fun raw m => ?_, fun v _ => resistanceOf_fits v, fun index v s h => ?_, fun s => ?_,
    by decide, by decide, by decide⟩
  · obtain ⟨-, hbus⟩ := busMillivolts_range raw
    obtain ⟨hlow, hhigh⟩ := toInt_range_16 raw
    exact ⟨toInt_ofInt_64 (by omega) (by omega), hbus, toInt_ofInt_64 (n := raw.toInt) (by omega) (by omega)⟩
  · obtain ⟨hlow, hhigh⟩ := abs_le.mp (abs_current_le raw m)
    have hpower := power_le raw m
    refine ⟨toInt_ofInt_64 ?_ ?_, abs_current_le raw m, toInt_ofInt_64 ?_ ?_, hpower⟩
    · exact le_trans (by decide) hlow
    · exact lt_of_le_of_lt hhigh (by decide)
    · exact le_trans (by decide) (Int.natCast_nonneg _)
    · exact lt_of_le_of_lt (Int.ofNat_le.mpr hpower) (by decide)
  · have hv := hostRegister_lt h
    exact ⟨toInt_ofInt_64 (by omega) (by omega), hv⟩
  · cases s.normState <;> decide

end Sys2Proof.Machine

/-! Proofs about the button hold detector's properties (42_button_hold.md R209): hysteresis, idempotence, a continuous press, a
continuous release, and noise.

What one step does is said once (`buttonStep_cases`); each property over a sequence of samples is then an induction over an
invariant that gives the accumulator and `NORM_STATE` after each sample. -/

namespace Sys2Proof.Machine

/-! ## Everything a button step can do (R201) -/

/-- A step changes nothing, unlocks, or moves the accumulator. -/
theorem buttonStep_cases (s : State) :
    buttonStep s = s ∨
    (s.pushDuration = 0#16 ∧ buttonStep s = { s with pushDuration := 1#16, lastSampleTime := s.now }) ∨
    (s.pushDuration ≠ 0#16 ∧ elapsed s.now s.lastSampleTime ≠ 0#32 ∧
      buttonStep s =
        { s with
          lastSampleTime := s.now
          pushDuration := movedDuration s (elapsed s.now s.lastSampleTime)
          normState := hysteresis (movedDuration s (elapsed s.now s.lastSampleTime)) s.normState }) := by
  by_cases hd : s.pushDuration = 0#16
  · obtain hb | hb := Bool.eq_false_or_eq_true s.btnN
    · exact .inl (buttonStep_of_idle hb hd)
    · exact .inr (.inl ⟨hd, buttonStep_of_unlock hb hd⟩)
  · by_cases ht : elapsed s.now s.lastSampleTime = 0#32
    · exact .inl (buttonStep_of_elapsed_zero hd ht)
    · exact .inr (.inr ⟨hd, ht, buttonStep_of_moved hd ht⟩)

/-! ## The extremes (R208, R209 item 1) -/

theorem eq_hundred_of_hysteresis_on {d : U16} (h : hysteresis d false = true) : d = 100#16 := by
  rw [hysteresis_eq] at h
  apply BitVec.eq_of_toNat_eq
  split at h
  · assumption
  · split at h <;> cases h

theorem eq_zero_of_hysteresis_off {d : U16} (h : hysteresis d true = false) : d = 0#16 := by
  rw [hysteresis_eq] at h
  apply BitVec.eq_of_toNat_eq
  split at h
  · cases h
  · split at h
    · assumption
    · cases h

/-- Settles O29: only a moved accumulator reaches the hysteresis, which flips at 100 and at 0. -/
theorem normStateFlipsAtTheExtremes : Obligations.NormStateFlipsAtTheExtremes := by
  unfold Obligations.NormStateFlipsAtTheExtremes
  intro s
  have kept (p q : Prop) :
      (s.normState = false → s.normState = true → p) ∧ (s.normState = true → s.normState = false → q) :=
    ⟨fun hoff hon => absurd (hoff.symm.trans hon) Bool.false_ne_true,
      fun hon hoff => absurd (hoff.symm.trans hon) Bool.false_ne_true⟩
  obtain h | ⟨-, h⟩ | ⟨-, -, h⟩ := buttonStep_cases s <;> rw [h]
  · exact kept _ _
  · exact kept _ _
  · exact ⟨fun hoff hon => eq_hundred_of_hysteresis_on (hoff ▸ hon),
      fun hon hoff => eq_zero_of_hysteresis_off (hon ▸ hoff)⟩

/-! ## A second step (R209 item 5) -/

/-- A state sampled at its present time, and released if its accumulator is empty, has nothing left to do. -/
theorem buttonStep_of_settled {s : State} (ht : s.lastSampleTime = s.now) (hb : s.pushDuration = 0#16 → s.btnN = true) :
    buttonStep s = s := by
  by_cases hd : s.pushDuration = 0#16
  · exact buttonStep_of_idle (hb hd) hd
  · exact buttonStep_of_elapsed_zero hd (elapsed_eq_zero.mpr ht.symm)

/-- Only a release empties an accumulator. -/
theorem released_of_movedDuration_zero {s : State} {dt : Time} (hd : s.pushDuration ≠ 0#16) (h : movedDuration s dt = 0#16) :
    s.btnN = true := by
  by_contra hb
  have hnat := movedDuration_toNat s dt
  rw [if_pos (by simpa using hb), h, BitVec.toNat_ofNat] at hnat
  have hpos : s.pushDuration.toNat ≠ 0 := by bv_omega
  omega

/-- Settles O30: after an unlock or a move the sample is settled; otherwise the first step changed nothing either. -/
theorem buttonStepIsIdempotent : Obligations.ButtonStepIsIdempotent := by
  unfold Obligations.ButtonStepIsIdempotent
  intro s
  obtain h | ⟨-, h⟩ | ⟨hd, -, h⟩ := buttonStep_cases s <;> rw [h]
  · exact h
  · exact buttonStep_of_settled rfl fun h0 => absurd h0 (show 1#16 ≠ 0#16 by decide)
  · exact buttonStep_of_settled rfl fun h0 => released_of_movedDuration_zero (s := s) hd h0

/-! ## One sample, as numbers -/

/-- A sample at `now`, off 0 and `dt` units after the last one, in numbers (R205 to R208). -/
theorem sampleAt_of_moved {btnN : Bool} {now : Time} {s : State} {dt d : Nat} (hd : s.pushDuration ≠ 0#16)
    (hdt : (elapsed now s.lastSampleTime).toNat = dt) (hpos : dt ≠ 0)
    (hmove : (if btnN = false then min (s.pushDuration.toNat + dt) 100 else s.pushDuration.toNat - (dt + 1)) = d) :
    (sampleAt btnN now s).pushDuration.toNat = d ∧
    (sampleAt btnN now s).normState = (if d = 100 then true else if d = 0 then false else s.normState) ∧
    (sampleAt btnN now s).lastSampleTime = now := by
  have ht : elapsed now s.lastSampleTime ≠ 0#32 := fun h0 => hpos (by rw [← hdt, h0]; rfl)
  have hmoved : (movedDuration { s with btnN := btnN, now := now } (elapsed now s.lastSampleTime)).toNat = d := by
    rw [movedDuration_toNat, hdt]
    exact hmove
  rw [sampleAt, buttonStep_of_moved (s := { s with btnN := btnN, now := now }) hd ht, hysteresis_eq, hmoved]
  exact ⟨rfl, rfl, rfl⟩

/-- One unit lies between neighbouring samples of a sequence, wherever the time base wraps. -/
theorem elapsed_unit (start : Time) (k : Nat) :
    (elapsed (start + BitVec.ofNat 32 (k + 1)) (start + BitVec.ofNat 32 k)).toNat = 1 := by
  have hone : elapsed (start + BitVec.ofNat 32 (k + 1)) (start + BitVec.ofNat 32 k) = 1#32 := by
    rw [elapsed, BitVec.ofNat_add]
    ring
  rw [hone]
  rfl

/-! ## A continuous press (R209 item 3) -/

/-- After the `k + 1`-st unit sample of a press from idle: one unit per sample, up to 100, on from 100. -/
theorem unitSamples_pressed {s : State} (hd : s.pushDuration = 0#16) (hn : s.normState = false) (start : Time) (k : Nat) :
    (unitSamples false start (k + 1) s).pushDuration.toNat = min (k + 1) 100 ∧
    (unitSamples false start (k + 1) s).normState = decide (100 ≤ k + 1) ∧
    (unitSamples false start (k + 1) s).lastSampleTime = start + BitVec.ofNat 32 k := by
  induction k with
  | zero =>
    have hunlock : unitSamples false start (0 + 1) s =
        { s with btnN := false, now := start + BitVec.ofNat 32 0, pushDuration := 1#16,
                 lastSampleTime := start + BitVec.ofNat 32 0 } := buttonStep_of_unlock rfl hd
    rw [hunlock]
    exact ⟨rfl, hn, rfl⟩
  | succ k ih =>
    obtain ⟨hdur, hnorm, hlast⟩ := ih
    have hne : (unitSamples false start (k + 1) s).pushDuration ≠ 0#16 := by
      intro h0
      rw [h0, BitVec.toNat_ofNat] at hdur
      omega
    have hdt : (elapsed (start + BitVec.ofNat 32 (k + 1)) (unitSamples false start (k + 1) s).lastSampleTime).toNat = 1 := by
      rw [hlast, elapsed_unit]
    obtain ⟨hdur', hnorm', hlast'⟩ := sampleAt_of_moved (btnN := false) (d := min (k + 1 + 1) 100) hne hdt one_ne_zero
      (by rw [if_pos rfl, hdur]; omega)
    refine ⟨hdur', hnorm'.trans ?_, hlast'⟩
    rw [hnorm]
    by_cases h100 : 100 ≤ k + 1 + 1
    · simp [h100]
    · rw [if_neg (by omega), if_neg (by omega)]
      simp only [decide_eq_decide]
      omega

/-- Settles O31: the numbers after each sample of the press. -/
theorem continuousPressFlipsAtHundred : Obligations.ContinuousPressFlipsAtHundred := by
  unfold Obligations.ContinuousPressFlipsAtHundred
  intro s start k hd hn hk
  obtain ⟨k, rfl⟩ := Nat.exists_eq_add_of_le' hk
  obtain ⟨hdur, hnorm, -⟩ := unitSamples_pressed hd hn start k
  exact ⟨hdur, hnorm⟩

/-! ## A continuous release (R209 item 4) -/

/-- After `k` unit samples of a release from 100: two units less per sample, off from the 50th; the last sample's time
matters while the accumulator is not empty. -/
theorem unitSamples_released {s : State} (hd : s.pushDuration = 100#16) (hn : s.normState = true) {start : Time}
    (hstart : start = s.lastSampleTime + 1#32) (k : Nat) :
    (unitSamples true start k s).pushDuration.toNat = 100 - 2 * k ∧
    (unitSamples true start k s).normState = decide (k < 50) ∧
    (k < 50 → (unitSamples true start k s).lastSampleTime + 1#32 = start + BitVec.ofNat 32 k) := by
  induction k with
  | zero => exact ⟨by rw [unitSamples, hd]; rfl, hn, fun _ => by rw [unitSamples, hstart]; simp⟩
  | succ k ih =>
    obtain ⟨hdur, hnorm, hlast⟩ := ih
    by_cases hk : k < 50
    · have hne : (unitSamples true start k s).pushDuration ≠ 0#16 := by
        intro h0
        rw [h0, BitVec.toNat_ofNat] at hdur
        omega
      have hdt : (elapsed (start + BitVec.ofNat 32 k) (unitSamples true start k s).lastSampleTime).toNat = 1 := by
        rw [← hlast hk, elapsed, add_sub_cancel_left]
        rfl
      obtain ⟨hdur', hnorm', hlast'⟩ := sampleAt_of_moved (btnN := true) (d := 100 - 2 * (k + 1)) hne hdt one_ne_zero
        (by rw [if_neg (by decide), hdur]; omega)
      refine ⟨hdur', hnorm'.trans ?_, fun _ => ?_⟩
      · rw [hnorm, if_neg (by omega)]
        by_cases h0 : 100 - 2 * (k + 1) = 0
        · rw [if_pos h0]
          simp only [false_eq_decide_iff]
          omega
        · rw [if_neg h0, decide_eq_decide]
          omega
      · rw [unitSamples, hlast', BitVec.ofNat_add, add_assoc]
    · have hzero : (unitSamples true start k s).pushDuration = 0#16 := by
        apply BitVec.eq_of_toNat_eq
        rw [hdur, BitVec.toNat_ofNat]
        omega
      have hidle : unitSamples true start (k + 1) s =
          { unitSamples true start k s with btnN := true, now := start + BitVec.ofNat 32 k } :=
        buttonStep_of_idle rfl hzero
      rw [hidle]
      refine ⟨hdur.trans (by omega), hnorm.trans ?_, fun h => absurd h (by omega)⟩
      rw [decide_eq_decide]
      omega

/-- Settles O32: the numbers after each sample of the release. -/
theorem continuousReleaseFlipsAtFifty : Obligations.ContinuousReleaseFlipsAtFifty := by
  unfold Obligations.ContinuousReleaseFlipsAtFifty
  intro s start k hd hn hstart
  obtain ⟨hdur, hnorm, -⟩ := unitSamples_released hd hn hstart k
  exact ⟨hdur, hnorm⟩

/-! ## Noise (R209 item 2) -/

/-- What one sample adds to the pressed time (R209 item 2). -/
def pressedTime (x : Bool × Time) (s : State) : Nat :=
  if x.1 = false ∧ s.pushDuration ≠ 0#16 then (x.2 - s.lastSampleTime).toNat else 0

theorem pressedCharge_cons (x : Bool × Time) (xs : List (Bool × Time)) (s : State) :
    pressedCharge (x :: xs) s = pressedTime x s + pressedCharge xs (sampleAt x.1 x.2 s) := rfl

/-- Below 100 a sample leaves `NORM_STATE` off and adds at most its pressed time, where an unlock counts as the 1 that an
empty accumulator is credited with from the start. -/
theorem sampleAt_below_hundred {x : Bool × Time} {s : State} (hn : s.normState = false)
    (hbound : max 1 s.pushDuration.toNat + pressedTime x s < 100) :
    (sampleAt x.1 x.2 s).normState = false ∧
    max 1 (sampleAt x.1 x.2 s).pushDuration.toNat ≤ max 1 s.pushDuration.toNat + pressedTime x s := by
  obtain ⟨btnN, now⟩ := x
  by_cases hd : s.pushDuration = 0#16
  · cases btnN with
    | false =>
      have hunlock : sampleAt false now s =
          { s with btnN := false, now := now, pushDuration := 1#16, lastSampleTime := now } :=
        buttonStep_of_unlock rfl hd
      rw [hunlock]
      exact ⟨hn, show max 1 1 ≤ _ by omega⟩
    | true =>
      have hidle : sampleAt true now s = { s with btnN := true, now := now } := buttonStep_of_idle rfl hd
      rw [hidle]
      exact ⟨hn, Nat.le_add_right _ _⟩
  · by_cases ht : elapsed now s.lastSampleTime = 0#32
    · have hsame : sampleAt btnN now s = { s with btnN := btnN, now := now } := buttonStep_of_elapsed_zero hd ht
      rw [hsame]
      exact ⟨hn, Nat.le_add_right _ _⟩
    · have hpos : (elapsed now s.lastSampleTime).toNat ≠ 0 := by bv_omega
      obtain ⟨hdur, hnorm, -⟩ := sampleAt_of_moved (btnN := btnN) hd rfl hpos rfl
      have htime : pressedTime (btnN, now) s = if btnN = false then (elapsed now s.lastSampleTime).toNat else 0 := by
        simp [pressedTime, elapsed, hd]
      rw [htime] at hbound ⊢
      rw [hnorm, hdur, hn]
      cases btnN <;> simp at hbound ⊢ <;> omega

/-- From below 100 less the pressed time, whatever the samples do in between (R209 item 2). -/
theorem samples_below_hundred {xs : List (Bool × Time)} {s : State} (hn : s.normState = false)
    (hbound : max 1 s.pushDuration.toNat + pressedCharge xs s < 100) :
    (samples xs s).normState = false ∧
    (samples xs s).pushDuration.toNat ≤ max 1 s.pushDuration.toNat + pressedCharge xs s := by
  induction xs generalizing s with
  | nil => exact ⟨hn, Nat.le_add_right_of_le (Nat.le_max_right 1 _)⟩
  | cons x xs ih =>
    rw [pressedCharge_cons] at hbound ⊢
    obtain ⟨hn', hstep⟩ := sampleAt_below_hundred (x := x) hn (by omega)
    obtain ⟨hend, hdur⟩ := ih (s := sampleAt x.1 x.2 s) hn' (by omega)
    exact ⟨hend, Nat.le_trans hdur (by omega)⟩

/-- Settles O33: from idle the credit is 1, so the pressed time of less than 99 units stays below 100. -/
theorem noiseNeverFlips : Obligations.NoiseNeverFlips := by
  unfold Obligations.NoiseNeverFlips
  intro xs s hd hn hcharge
  have hcredit : max 1 s.pushDuration.toNat = 1 := by rw [hd]; rfl
  have h := samples_below_hundred (xs := xs) (s := s) hn
  rw [hcredit] at h
  exact h (by omega)

end Sys2Proof.Machine

/-! Proofs about the calculator's range (43_resistance.md R233, R234), the pseudo-commands (30_encoding.md R99), and the views
of the bus: the oracle's answers (20_memory.md R66) and the frames on the wire (30_encoding.md R96). -/

namespace Sys2Proof.Machine

/-! ## The calculator (R231, R233, R234) -/

/-- Settles O35: numerator and denominator are monotone in the forward voltage, and so is their quotient's bound. -/
theorem resistanceRange : Obligations.ResistanceRange := by
  unfold Obligations.ResistanceRange
  refine ⟨fun v hlow hhigh => ?_, fun v hlow _ => by rw [resistanceOf_open hlow]⟩
  have hdlow : 17 ≤ 5016 - v := by omega
  have hdhigh : 5016 - v ≤ 5014 := by omega
  have hnlow : 2000 ≤ 1000 * v := by omega
  have hnhigh : 1000 * v ≤ 4999000 := by omega
  have hdpos : (0 : ℚ) < ((5016 - v : Nat) : ℚ) := by exact_mod_cast (by omega : 0 < 5016 - v)
  refine ⟨1000 * v, 5016 - v, resistanceOf_between hlow (by omega), hdlow, hdhigh, hnlow, hnhigh, ?_, ?_⟩
  · exact div_le_div₀ (Nat.cast_nonneg _) (by exact_mod_cast hnlow) hdpos (by exact_mod_cast hdhigh)
  · exact div_le_div₀ (by norm_num) (by exact_mod_cast hnhigh) (by norm_num) (by exact_mod_cast hdlow)

/-- Settles O36: the divider's equation, solved for the resistance. -/
theorem dividerRoundTrip : Obligations.DividerRoundTrip := by
  unfold Obligations.DividerRoundTrip
  intro r v hr hlow hhigh hv
  have hsum : r + 1000 ≠ 0 := by positivity
  have hden : (5016 : ℚ) - v ≠ 0 := by
    have hlt : (v : ℚ) < 5000 := by exact_mod_cast hhigh
    linarith
  refine ⟨1000 * v, 5016 - v, resistanceOf_between hlow hhigh, ?_⟩
  rw [eq_div_iff hsum] at hv
  rw [Nat.cast_sub (by omega)]
  push_cast
  rw [div_eq_iff hden]
  linarith

/-! ## The pseudo-commands (R99) -/

/-- Settles O43: each pseudo-command is its command, whose statement gives the effect. -/
theorem pseudoCommandsExpand : Obligations.PseudoCommandsExpand := by
  unfold Obligations.PseudoCommandsExpand
  refine ⟨fun v => ⟨rfl, rfl⟩, rfl, rfl, rfl, fun v s hf hi => ⟨?_, ?_, ?_, ?_, ?_⟩⟩
  · refine ⟨_, updcfgWritesShadowAndChip v 0xFFFF s hf hi, ?_⟩
    have hall : s.configWord &&& ~~~0xFFFF#16 = 0#16 := BitVec.and_zero
    exact (congrArg (· ||| v) hall).trans BitVec.zero_or
  · refine ⟨_, updcfgWritesShadowAndChip v 0x0000 s hf hi, ?_⟩
    have hnone : s.configWord &&& ~~~0x0000#16 = s.configWord := BitVec.and_allOnes
    exact congrArg (· ||| v) hnone
  · exact ⟨_, pwrsaveWritesChipOnly true s hf hi, rfl⟩
  · exact ⟨_, pwrsaveWritesChipOnly false s hf hi, rfl⟩
  · obtain ⟨hread, -⟩ := rdregReadsHostRegisters 0x00#16 s
    exact ⟨_, hread (by decide), rfl, rfl⟩

/-! ## The oracle and the wire (R66, R96) -/

/-- Settles O47: a listed answer is the one that is read, and a value's two bytes join to it. -/
theorem oracleAdmitsEveryAnswer : Obligations.OracleAdmitsEveryAnswer := by
  unfold Obligations.OracleAdmitsEveryAnswer
  intro s vs as t
  refine ⟨fun k v hv => ?_, fun k a ha => ackAnswer_of_listed ha⟩
  have hlisted : t.reads[k]? = some (highByte v, lowByte v) := by simp [t, hv]
  rw [readAnswer_of_listed hlisted, joinBytes_split]

/-- Settles O48: the frames are the definition, and the bytes of a read are the halves of its value. -/
theorem busFramesAreBigEndian : Obligations.BusFramesAreBigEndian := by
  unfold Obligations.BusFramesAreBigEndian
  exact ⟨fun _ _ _ => rfl, fun _ => rfl, fun _ v => ⟨highByte v, lowByte v, rfl, joinBytes_split v⟩⟩

end Sys2Proof.Machine

/-! Proofs about the control cycle's steady state and its outputs (44_output_gate.md R262, R263), and the corner case of the
measurement (43_resistance.md R236). -/

namespace Sys2Proof.Machine

/-! ## A cycle with no transition (R262) -/

/-- A button level that agrees with the gate is no transition. -/
theorem cycleBody_of_steady {s : State} (h : (buttonStep s).normState = (buttonStep s).gateEnabled) (orch : Bool) :
    cycleBody orch s = steadyCycle orch (buttonStep s) := by
  rw [cycleBody, if_neg (not_not.mpr h)]

theorem steadyCycle_of_disabled {s : State} (h : s.gateEnabled = false) (orch : Bool) :
    steadyCycle orch s = measuredState s := by
  rw [steadyCycle, h, if_neg Bool.false_ne_true, measureStep_eq_measuredState]

theorem steadyCycle_of_enabled {s : State} (h : s.gateEnabled = true) (orch : Bool) :
    steadyCycle orch s = if orch then measuredState (currentReported false s) else currentReported false s := by
  rw [steadyCycle, if_pos h, reportCurrent_eq_currentReported, measureStep_eq_measuredState]

/-- A CYCLE that passes the preamble and finds no transition ends with OK after its steady cycle. -/
theorem exec_cycle_of_steady {s : State} (hf : fatalFlag s.status = false) (hi : initDone s.status = true)
    (h : (buttonStep s).normState = (buttonStep s).gateEnabled) :
    exec .cycle s =
      .next { steadyCycle Config.orchWhileEnabled (buttonStep s) with status := endStatus .ok s.status, ready := true } := by
  rw [exec_eq_finish_ok hf hi (f := cycleBody Config.orchWhileEnabled) rfl, finish, cycleBody_status, cycleBody_of_steady h]

/-- Settles O40: the gate chooses between the two steady cycles, and each is its closed form. -/
theorem cycleSteadyState : Obligations.CycleSteadyState := by
  unfold Obligations.CycleSteadyState
  refine ⟨?_, fun s hon hgate => ?_⟩
  · intro s hf hi b
    refine ⟨fun hon hgate => ?_, fun hoff hgate => ?_⟩
    · rw [exec_cycle_of_steady hf hi (hon.trans hgate.symm), steadyCycle_of_enabled hgate]
      rfl
    · rw [exec_cycle_of_steady hf hi (hoff.trans hgate.symm), steadyCycle_of_disabled hgate]
  · rw [cycleBody_of_steady (hon.trans hgate.symm), steadyCycle_of_enabled hgate, if_pos rfl]

/-! ## The gate and the pins (R29, R34) -/

/-- The two fields that follow each other: `GATE_ENABLED` and the pin `OUT_EN`. -/
def gateFields (s : State) : Bool × Bool := (s.gateEnabled, s.outEn)

@[simp] theorem gateFields_measureStep (s : State) : gateFields (measureStep s) = gateFields s := by
  obtain ⟨_, _, _, _, _, _, _, h⟩ := measureStep_changes s
  rw [h]
  rfl

@[simp] theorem gateFields_reportCurrent (resetAvg : Bool) (s : State) :
    gateFields (reportCurrent resetAvg s) = gateFields s := by
  obtain ⟨_, _, _, _, _, _, _, _, h⟩ := reportCurrent_changes resetAvg s
  rw [h]
  rfl

@[simp] theorem reportCurrent_probe (resetAvg : Bool) (s : State) : (reportCurrent resetAvg s).probe = s.probe := by
  obtain ⟨_, _, _, _, _, _, _, _, h⟩ := reportCurrent_changes resetAvg s
  rw [h]

theorem gateFields_steadyCycle (orch : Bool) (s : State) : gateFields (steadyCycle orch s) = gateFields s := by
  unfold steadyCycle
  split
  · cases orch with
    | false => exact gateFields_reportCurrent false s
    | true => exact (gateFields_measureStep _).trans (gateFields_reportCurrent false s)
  · exact gateFields_measureStep s

/-- A transition drives the output to the level it brings the gate to (R261). -/
theorem gateFields_gateTransition (want : Bool) (s : State) : gateFields (gateTransition want s) = (want, want) := by
  cases want with
  | false => rw [gateTransition_false]; rfl
  | true =>
    have hout : gateFields (becomeEnabled s) = (s.gateEnabled, true) := gateFields_reportCurrent _ _
    exact congrArg (fun g : Bool × Bool => (true, g.2)) hout

/-- Becoming enabled drives the probe off before it reads the current (R261). -/
theorem gateTransition_true_probe (s : State) : (gateTransition true s).probe = false :=
  reportCurrent_probe true (indicator .active (drivePin .outEn true (drivePin .probe false s)))

/-- CYCLE leaves the gate at the button's level, and the output with it if it was with it before (R260 to R263). -/
theorem gateFields_cycleBody {s : State} (h : s.outEn = s.gateEnabled) (orch : Bool) :
    gateFields (cycleBody orch s) = ((buttonStep s).normState, (buttonStep s).normState) := by
  by_cases hsteady : (buttonStep s).normState = (buttonStep s).gateEnabled
  · rw [cycleBody_of_steady hsteady, gateFields_steadyCycle, gateFields, hsteady, buttonStep_outEn, buttonStep_gateEnabled, h]
  · rw [cycleBody, if_pos hsteady, gateFields_gateTransition]

/-- A CYCLE that leaves the gate enabled has driven the probe off or left it as it was (R263). -/
theorem cycleBody_probe {s : State} (hprobe : s.gateEnabled = true → s.probe = false)
    (hon : (buttonStep s).normState = true) : (cycleBody false s).probe = false := by
  by_cases hsteady : (buttonStep s).normState = (buttonStep s).gateEnabled
  · have hgate : (buttonStep s).gateEnabled = true := hsteady ▸ hon
    rw [cycleBody_of_steady hsteady, steadyCycle, if_pos hgate]
    rw [buttonStep_gateEnabled] at hgate
    exact (reportCurrent_probe false _).trans ((buttonStep_probe s).trans (hprobe hgate))
  · rw [cycleBody, if_pos hsteady, hon]
    exact gateTransition_true_probe _

/-- Settles O41: a CYCLE stopped by the preamble changes neither pin, and one that runs leaves gate and output at the button's
level. -/
theorem cycleKeepsOutputInvariant : Obligations.CycleKeepsOutputInvariant := by
  unfold Obligations.CycleKeepsOutputInvariant
  intro s t hout ht
  obtain ⟨c, -, rfl⟩ | ⟨-, rfl⟩ := exec_cases ht
  · exact ⟨hout, fun _ hprobe => hprobe⟩
  · have hgate := gateFields_cycleBody hout Config.orchWhileEnabled
    obtain ⟨hg, ho⟩ := Prod.mk.inj hgate
    exact ⟨ho.trans hg.symm, fun _ hprobe hon => cycleBody_probe hprobe (hg.symm.trans hon)⟩

/-! ## The probe while the output is enabled (R236; log 18) -/

/-- An initialized state with the gate enabled, where the chip answers 1 count, 4 mV, to the next read. -/
def enabledBelowThreshold : State :=
  { State.reset with
    calValue := 0xA000#16
    maxCurrentMa := 32768#16
    shuntMohm := 1000#16
    gateEnabled := true
    outEn := true
    status := 0x0001#16
    reads := [(0x00#8, 0x08#8)] }

theorem inv_enabledBelowThreshold : Inv enabledBelowThreshold where
  durationBounded := by decide
  releasedAtZero := fun _ => rfl
  heldAtMax := fun h => absurd h (by decide)
  shadowDerived := fun _ => by unfold State.calibrated; decide
  fatalNotInit := fun h => absurd h (by decide)
  outputFollowsGate := rfl
  reservedZero := by decide
  denominatorPositive := by decide

/-- Settles O38: in that state a MEASURE reads less than the threshold of 5 mV, so it asserts the probe. -/
theorem measureCanProbeWhileEnabled : Obligations.MeasureCanProbeWhileEnabled := by
  unfold Obligations.MeasureCanProbeWhileEnabled
  exact ⟨enabledBelowThreshold, _, inv_enabledBelowThreshold, rfl, rfl,
    measureSelectsMode enabledBelowThreshold rfl rfl, rfl, rfl⟩

end Sys2Proof.Machine

/-! Proofs about who writes a register (10_state.md R21 to R34).

Eight commands write no register of the block but the result registers, and they are settled by one lemma; INIT, UPDCFG,
BTNSAMPLE, MEASURE and CYCLE are looked at one by one for each group of registers. -/

namespace Sys2Proof.Machine

/-! ## The commands that write results alone (R26) -/

/-- The commands whose rule writes no register of the block but the result registers. -/
def onlyAnswers : Instr → Bool
  | .init _ _ | .updcfg _ _ | .btnsample | .measure | .cycle => false
  | .rdbusv | .rdshunt | .rdcur | .rdpwr | .pwrsave _ | .reset | .rescalc _ | .rdreg _ => true

/-- What such a command can change: the result registers, the history and what the chip has answered. -/
theorem ownRule_changes_of_onlyAnswers {i : Instr} (h : onlyAnswers i = true) (s : State) :
    ∃ k n d r rd a ad tr, (ownRule i s).2 =
      { s with resKind := k, resNum := n, resDen := d, reads := r, readDraws := rd, acks := a, ackDraws := ad,
               trace := tr } := by
  cases i with
  | init _ _ | updcfg _ _ | btnsample | measure | cycle => cases h
  | rdbusv => exact ⟨_, _, _, _, _, _, _, _, rdbusvBody_eq s⟩
  | rdshunt => exact ⟨_, _, _, _, _, _, _, _, rdshuntBody_eq s⟩
  | rdcur =>
    obtain ⟨r, rd, a, ad, tr, hread⟩ := readWithRestore_changes Config.ptrCurrent Config.maxRetry s
    rw [ownRule, completes_snd, rdcurBody_eq, ← restoreProtocolCases, hread]
    exact ⟨_, _, _, r, rd, a, ad, tr, rfl⟩
  | rdpwr =>
    obtain ⟨r, rd, a, ad, tr, hread⟩ := readWithRestore_changes Config.ptrPower Config.maxRetry s
    rw [ownRule, completes_snd, rdpwrBody_eq, ← restoreProtocolCases, hread]
    exact ⟨_, _, _, r, rd, a, ad, tr, rfl⟩
  | pwrsave enable => exact ⟨_, _, _, _, _, _, _, _, pwrsaveBody_eq enable s⟩
  | reset => exact ⟨_, _, _, _, _, _, _, _, resetBody_eq s⟩
  | rescalc mv => exact ⟨_, _, _, s.reads, s.readDraws, s.acks, s.ackDraws, s.trace, rfl⟩
  | rdreg index =>
    rw [ownRule, rdregBody]
    split
    · exact ⟨_, _, _, s.reads, s.readDraws, s.acks, s.ackDraws, s.trace, rfl⟩
    · exact ⟨s.resKind, s.resNum, s.resDen, s.reads, s.readDraws, s.acks, s.ackDraws, s.trace, rfl⟩

/-! ## The shadow, the configuration word and the input ports (R21 to R23, R30) -/

/-- The calibration shadow of R21 and R23. -/
def shadowFields (s : State) : U16 × U16 × U16 := (s.calValue, s.maxCurrentMa, s.shuntMohm)

/-- The host's words still to come and the two input ports (R30, R38). -/
def portFields (s : State) : List Presentation × Bool × Time := (s.inbox, s.btnN, s.now)

/-- The shadow, the configuration word and the ports together. -/
def setupFields (s : State) : (U16 × U16 × U16) × U16 × List Presentation × Bool × Time :=
  (shadowFields s, s.configWord, portFields s)

theorem setupFields_of_onlyAnswers {i : Instr} (h : onlyAnswers i = true) (s : State) :
    setupFields (ownRule i s).2 = setupFields s := by
  obtain ⟨_, _, _, _, _, _, _, _, hs⟩ := ownRule_changes_of_onlyAnswers h s
  rw [hs]
  rfl

@[simp] theorem setupFields_buttonStep (s : State) : setupFields (buttonStep s) = setupFields s := by
  rw [buttonStep_frame]
  rfl

@[simp] theorem setupFields_measureStep (s : State) : setupFields (measureStep s) = setupFields s := by
  obtain ⟨_, _, _, _, _, _, _, h⟩ := measureStep_changes s
  rw [h]
  rfl

@[simp] theorem setupFields_reportCurrent (resetAvg : Bool) (s : State) :
    setupFields (reportCurrent resetAvg s) = setupFields s := by
  obtain ⟨_, _, _, _, _, _, _, _, h⟩ := reportCurrent_changes resetAvg s
  rw [h]
  rfl

theorem setupFields_gateTransition (want : Bool) (s : State) : setupFields (gateTransition want s) = setupFields s := by
  cases want with
  | false => rfl
  | true => exact setupFields_reportCurrent true (indicator .active (drivePin .outEn true (drivePin .probe false s)))

theorem setupFields_steadyCycle (orch : Bool) (s : State) : setupFields (steadyCycle orch s) = setupFields s := by
  unfold steadyCycle
  split
  · cases orch with
    | false => exact setupFields_reportCurrent false s
    | true => exact (setupFields_measureStep _).trans (setupFields_reportCurrent false s)
  · exact setupFields_measureStep s

theorem setupFields_cycleBody (orch : Bool) (s : State) : setupFields (cycleBody orch s) = setupFields s := by
  rw [← setupFields_buttonStep s, cycleBody]
  split
  · exact setupFields_gateTransition _ _
  · exact setupFields_steadyCycle _ _

/-- But for INIT and UPDCFG no command writes these (R21 to R23). -/
theorem setupFields_ownRule {i : Instr} (hi : ∀ m sh, i ≠ .init m sh) (hu : ∀ v m, i ≠ .updcfg v m) (s : State) :
    setupFields (ownRule i s).2 = setupFields s := by
  cases i with
  | init m sh => exact absurd rfl (hi m sh)
  | updcfg value mask => exact absurd rfl (hu value mask)
  | btnsample => rw [ownRule, completes_snd, btnsampleBody_eq]; exact setupFields_buttonStep s
  | measure => exact setupFields_measureStep s
  | cycle => exact setupFields_cycleBody Config.orchWhileEnabled s
  | _ => exact setupFields_of_onlyAnswers rfl s

/-- What INIT can change: the shadow, `STATUS`, the history and what the chip has acknowledged (R161). -/
theorem initBody_changes (m sh : U16) (s : State) :
    ∃ cal mc sm st a ad tr, (initBody m sh s).2 =
      { s with calValue := cal, maxCurrentMa := mc, shuntMohm := sm, status := st, acks := a, ackDraws := ad,
               trace := tr } := by
  cases hfit : calibrationFits m sh with
  | false =>
    rw [initBody_of_not_fits hfit]
    exact ⟨s.calValue, s.maxCurrentMa, s.shuntMohm, s.status, s.acks, s.ackDraws, s.trace, rfl⟩
  | true =>
    rw [initBody_of_fits hfit]
    cases ackAnswer 0 s <;> exact ⟨_, _, _, _, _, _, _, rfl⟩

theorem shadowFields_ownRule {i : Instr} (hi : ∀ m sh, i ≠ .init m sh) (s : State) :
    shadowFields (ownRule i s).2 = shadowFields s := by
  by_cases hu : ∀ v m, i ≠ .updcfg v m
  · exact congrArg Prod.fst (setupFields_ownRule hi hu s)
  · push Not at hu
    obtain ⟨value, mask, rfl⟩ := hu
    rfl

theorem configWord_ownRule {i : Instr} (hu : ∀ v m, i ≠ .updcfg v m) (s : State) :
    (ownRule i s).2.configWord = s.configWord := by
  by_cases hi : ∀ m sh, i ≠ .init m sh
  · exact congrArg (fun f => f.2.1) (setupFields_ownRule hi hu s)
  · push Not at hi
    obtain ⟨m, sh, rfl⟩ := hi
    obtain ⟨cal, mc, sm, st, a, ad, tr, h⟩ := initBody_changes m sh s
    rw [ownRule, h]

theorem portFields_ownRule (i : Instr) (s : State) : portFields (ownRule i s).2 = portFields s := by
  by_cases hi : ∀ m sh, i ≠ .init m sh
  · by_cases hu : ∀ v m, i ≠ .updcfg v m
    · exact congrArg (fun f => f.2.2) (setupFields_ownRule hi hu s)
    · push Not at hu
      obtain ⟨value, mask, rfl⟩ := hu
      rfl
  · push Not at hi
    obtain ⟨m, sh, rfl⟩ := hi
    obtain ⟨cal, mc, sm, st, a, ad, tr, h⟩ := initBody_changes m sh s
    rw [ownRule, h]
    rfl

/-! ## The gate, the pins and the results (R26, R29, R34) -/

theorem gateFields_of_onlyAnswers {i : Instr} (h : onlyAnswers i = true) (s : State) :
    gateFields (ownRule i s).2 = gateFields s := by
  obtain ⟨_, _, _, _, _, _, _, _, hs⟩ := ownRule_changes_of_onlyAnswers h s
  rw [hs]
  rfl

theorem probe_of_onlyAnswers {i : Instr} (h : onlyAnswers i = true) (s : State) : (ownRule i s).2.probe = s.probe := by
  obtain ⟨_, _, _, _, _, _, _, _, hs⟩ := ownRule_changes_of_onlyAnswers h s
  rw [hs]

/-- Only CYCLE writes the gate and the output (R34). -/
theorem gateFields_ownRule {i : Instr} (hc : i ≠ .cycle) (s : State) : gateFields (ownRule i s).2 = gateFields s := by
  cases i with
  | cycle => exact absurd rfl hc
  | init m sh =>
    obtain ⟨cal, mc, sm, st, a, ad, tr, h⟩ := initBody_changes m sh s
    rw [ownRule, h]
    rfl
  | updcfg value mask => rfl
  | btnsample => rw [ownRule, completes_snd, btnsampleBody_eq, buttonStep_frame]; rfl
  | measure => exact gateFields_measureStep s
  | _ => exact gateFields_of_onlyAnswers rfl s

/-- Only MEASURE and CYCLE write the probe (R236, R261). -/
theorem probe_ownRule {i : Instr} (hm : i ≠ .measure) (hc : i ≠ .cycle) (s : State) :
    (ownRule i s).2.probe = s.probe := by
  cases i with
  | measure => exact absurd rfl hm
  | cycle => exact absurd rfl hc
  | init m sh => exact initBody_probe m sh s
  | updcfg value mask => rfl
  | btnsample => rw [ownRule, completes_snd, btnsampleBody_eq]; exact buttonStep_probe s
  | _ => exact probe_of_onlyAnswers rfl s

/-- The three result registers (R26). -/
def resultFields (s : State) : ResultKind × BitVec 64 × BitVec 32 := (s.resKind, s.resNum, s.resDen)

/-- The commands that produce no value (R26). -/
def ProducesNoValue (i : Instr) : Prop :=
  (∃ m sh, i = .init m sh) ∨ (∃ v m, i = .updcfg v m) ∨ (∃ e, i = .pwrsave e) ∨ i = .reset

theorem resultFields_ownRule {i : Instr} (h : ProducesNoValue i) (s : State) :
    resultFields (ownRule i s).2 = resultFields s := by
  obtain ⟨m, sh, rfl⟩ | ⟨value, mask, rfl⟩ | ⟨enable, rfl⟩ | rfl := h
  · obtain ⟨cal, mc, sm, st, a, ad, tr, h⟩ := initBody_changes m sh s
    rw [ownRule, h]
    rfl
  · rfl
  · cases enable <;> rfl
  · rfl

/-! ## The reserved bits (R31) -/

theorem reservedBits_ownRule (i : Instr) (s : State) :
    reservedBits (ownRule i s).2.status = reservedBits s.status := by
  by_cases hi : ∃ m sh, i = .init m sh
  · obtain ⟨m, sh, rfl⟩ := hi
    obtain h | ⟨ack, u, h, hstatus, -, -⟩ := initBody_cases m sh s
    · rw [ownRule, h]
    · rw [ownRule, h, ← hstatus]
      cases ack <;> simp [concludeInit]
  · rw [ownRule_status_of_not_init hi]

/-! ## Every register by its commands -/

/-- Settles O44: the end of a command writes only `STATUS` and `READY`, and each group of registers has its frame lemma for the
commands' own rules. -/
theorem registersChangeOnlyByTheirCommands : Obligations.RegistersChangeOnlyByTheirCommands := by
  unfold Obligations.RegistersChangeOnlyByTheirCommands
  intro i s t h
  obtain ⟨c, -, rfl⟩ | ⟨-, rfl⟩ := exec_cases h
  · simp
  · refine ⟨fun hi => ?_, fun hu => configWord_ownRule hu s, fun hb hc => ?_, fun hc => ?_, fun hm hc => ?_, fun hr => ?_,
      ?_, ?_⟩
    · have hstatus := ownRule_status_of_not_init (by push Not; exact hi) s
      have hshadow := shadowFields_ownRule hi s
      simp only [shadowFields, Prod.mk.injEq] at hshadow
      obtain ⟨hcal, hmc, hsm⟩ := hshadow
      exact ⟨hcal, hmc, hsm, by rw [finish_status, initDone_endStatus, hstatus],
        by rw [finish_status, fatalFlag_endStatus, hstatus]⟩
    · exact buttonFields_eq_iff.mp (buttonFields_ownRule_of_ne hb hc s)
    · exact Prod.mk.inj (gateFields_ownRule hc s)
    · exact probe_ownRule hm hc s
    · have hresult := resultFields_ownRule hr s
      simp only [resultFields, Prod.mk.injEq] at hresult
      exact hresult
    · rw [finish_status, reservedBits_endStatus, reservedBits_ownRule]
    · have hports := portFields_ownRule i s
      simp only [portFields, Prod.mk.injEq] at hports
      exact hports

end Sys2Proof.Machine

/-! Proofs about the invariants of the reachable states (10_state.md R37): they hold at reset, and every step keeps them.

A command keeps each invariant for a reason of its own: the button fields are written by the button step alone, the shadow and
the flags by INIT alone, the output by CYCLE alone, and every command that stores a result stores a positive denominator. So
the frame statements leave one or two commands to look at for each. -/

namespace Sys2Proof.Machine

/-! ## The invariants and the end of a command -/

/-- Settles O50: every invariant evaluates at the reset values. -/
theorem invariantsHoldAtReset : Obligations.InvariantsHoldAtReset where
  durationBounded := by decide
  releasedAtZero := fun _ => rfl
  heldAtMax := fun h => absurd h (by decide)
  shadowDerived := fun h => absurd h (by decide)
  fatalNotInit := fun h => absurd h (by decide)
  outputFollowsGate := rfl
  reservedZero := by decide
  denominatorPositive := by decide

/-- The invariants speak of no port, of no answer still to come and not of the history. -/
theorem inv_accept {s : State} (h : Inv s) (p : Presentation) (rest : List Presentation) : Inv (accept p rest s) :=
  ⟨h.durationBounded, h.releasedAtZero, h.heldAtMax, h.shadowDerived, h.fatalNotInit, h.outputFollowsGate, h.reservedZero,
    h.denominatorPositive⟩

/-- A shadow that is the same is calibrated as before. -/
theorem calibrated_of_shadowFields_eq {s t : State} (h : shadowFields t = shadowFields s) (hs : s.calibrated) :
    t.calibrated := by
  simp only [shadowFields, Prod.mk.injEq] at h
  obtain ⟨hcal, hmc, hsm⟩ := h
  rwa [State.calibrated, hcal, hmc, hsm]

/-- The end of a command writes the code into `STATUS`, of which no invariant speaks. -/
theorem inv_finish {s : State} (h : Inv s) (c : StatusCode) : Inv (finish c s) where
  durationBounded := h.durationBounded
  releasedAtZero := h.releasedAtZero
  heldAtMax := h.heldAtMax
  shadowDerived := fun hi => h.shadowDerived (by simpa using hi)
  fatalNotInit := fun hf => by simpa using h.fatalNotInit (by simpa using hf)
  outputFollowsGate := h.outputFollowsGate
  reservedZero := by simpa using h.reservedZero
  denominatorPositive := h.denominatorPositive

/-! ## The button fields (R37 items 1 to 3) -/

/-- R37 items 1 to 3 together. -/
def ButtonInv (s : State) : Prop :=
  s.pushDuration.toNat ≤ 100 ∧ (s.pushDuration = 0#16 → s.normState = false) ∧
    (s.pushDuration = 100#16 → s.normState = true)

theorem buttonInv_of_buttonFields_eq {s t : State} (h : buttonFields t = buttonFields s) (hs : ButtonInv s) :
    ButtonInv t := by
  obtain ⟨hd, hn, -⟩ := buttonFields_eq_iff.mp h
  rwa [ButtonInv, hd, hn]

/-- A moved accumulator stays within 100, from at most 100 (R206, R207). -/
theorem movedDuration_le {s : State} (h : s.pushDuration.toNat ≤ 100) (dt : Time) : (movedDuration s dt).toNat ≤ 100 := by
  rw [movedDuration_toNat]
  split <;> omega

/-- The hysteresis brings `NORM_STATE` in line with the extremes (R208). -/
theorem hysteresis_at_extremes (duration : U16) (norm : Bool) :
    (duration = 0#16 → hysteresis duration norm = false) ∧ (duration = 100#16 → hysteresis duration norm = true) := by
  constructor <;> (rintro rfl; rfl)

theorem buttonInv_buttonStep {s : State} (h : ButtonInv s) : ButtonInv (buttonStep s) := by
  obtain ⟨hle, hzero, hmax⟩ := h
  obtain hstep | ⟨hd, hstep⟩ | ⟨-, -, hstep⟩ := buttonStep_cases s <;> rw [hstep]
  · exact ⟨hle, hzero, hmax⟩
  · exact ⟨show (1#16).toNat ≤ 100 by decide, fun h => absurd h (show 1#16 ≠ 0#16 by decide),
      fun h => absurd h (show 1#16 ≠ 100#16 by decide)⟩
  · obtain ⟨hoff, hon⟩ := hysteresis_at_extremes (movedDuration s (elapsed s.now s.lastSampleTime)) s.normState
    exact ⟨movedDuration_le hle _, hoff, hon⟩

theorem buttonInv_ownRule {s : State} (h : ButtonInv s) (i : Instr) : ButtonInv (ownRule i s).2 := by
  by_cases hbtn : i = .btnsample ∨ i = .cycle
  · exact buttonInv_of_buttonFields_eq (buttonFields_ownRule_of_button hbtn s) (buttonInv_buttonStep h)
  · obtain ⟨hb, hc⟩ := not_or.mp hbtn
    exact buttonInv_of_buttonFields_eq (buttonFields_ownRule_of_ne hb hc s) h

/-! ## The shadow and the flags (R37 items 4 and 5) -/

/-- R37 items 4 and 5 together. -/
def ShadowInv (s : State) : Prop :=
  (initDone s.status = true → s.calibrated) ∧ (fatalFlag s.status = true → initDone s.status = false)

/-- An INIT that runs leaves a calibrated shadow or `INIT_DONE` at 0 (R161); it runs only while `FATAL` is 0 (R302). -/
theorem shadowInv_initBody {s : State} (h : ShadowInv s) (hf : fatalFlag s.status = false) (m sh : U16) :
    ShadowInv (initBody m sh s).2 := by
  cases hfit : calibrationFits m sh with
  | false => rwa [initBody_of_not_fits hfit]
  | true =>
    obtain ⟨hm, hsh, hlow, hhigh⟩ := calibrationFits_iff.mp hfit
    have hcal : (BitVec.ofNat 16 (calibrationOf m sh)).toNat = calibrationOf m sh :=
      Nat.mod_eq_of_lt (Nat.lt_succ_of_le hhigh)
    rw [initBody_of_fits hfit]
    cases ackAnswer 0 s with
    | ok =>
      refine ⟨fun _ => ⟨?_, ?_, hcal, hcal.symm ▸ hlow, hcal.symm ▸ hhigh⟩, fun hfatal => ?_⟩
      · show 1 ≤ m.toNat
        bv_omega
      · show 1 ≤ sh.toNat
        bv_omega
      · simp [concludeInit, hf] at hfatal
    | fail => exact ⟨fun hi => by simp [concludeInit] at hi, fun _ => by simp [concludeInit]⟩

theorem shadowInv_ownRule {i : Instr} {s : State} (hpass : preamble i s = none) (h : ShadowInv s) :
    ShadowInv (ownRule i s).2 := by
  by_cases hi : ∃ m sh, i = .init m sh
  · obtain ⟨m, sh, rfl⟩ := hi
    obtain ⟨hf | hop, -⟩ := preamble_eq_none.mp hpass
    · exact shadowInv_initBody h hf m sh
    · exact absurd hop (show 0x01#8 ≠ 0x0D#8 by decide)
  · have hshadow := shadowFields_ownRule (by push Not at hi; exact hi) s
    rw [ShadowInv, ownRule_status_of_not_init hi]
    exact ⟨fun hd => calibrated_of_shadowFields_eq hshadow (h.1 hd), h.2⟩

/-! ## The denominator of the results (R26) -/

/-- The calculator's denominator is 1, or that of the divider, which ends below the reference (R231). -/
theorem dividerResult_den_pos (v : Nat) : 1 ≤ (dividerResult v).2.2.toNat := by
  unfold dividerResult
  split
  · decide
  · split
    · decide
    · simp only [BitVec.toNat_ofNat]
      omega

theorem measuredState_resDen_pos (s : State) : 1 ≤ (measuredState s).resDen.toNat := by
  unfold measuredState
  dsimp only
  split
  · exact dividerResult_den_pos _
  · exact Nat.le_refl 1

theorem measureStep_resDen_pos (s : State) : 1 ≤ (measureStep s).resDen.toNat := by
  rw [measureStep_eq_measuredState]
  exact measuredState_resDen_pos s

theorem reportCurrent_resDen_pos (resetAvg : Bool) (s : State) : 1 ≤ (reportCurrent resetAvg s).resDen.toNat := by
  rw [reportCurrent_eq_currentReported]
  exact show 1 ≤ (32768#32).toNat by decide

/-- CYCLE reports or measures, and keeps the result registers on becoming disabled (R260 to R262). -/
theorem cycleBody_resDen_pos {s : State} (h : 1 ≤ s.resDen.toNat) (orch : Bool) : 1 ≤ (cycleBody orch s).resDen.toNat := by
  simp only [cycleBody]
  split
  · cases (buttonStep s).normState with
    | false => rwa [gateTransition_false, buttonStep_resDen]
    | true =>
      rw [gateTransition_true]
      exact show 1 ≤ (32768#32).toNat by decide
  · unfold steadyCycle
    split
    · cases orch with
      | false => exact reportCurrent_resDen_pos false _
      | true => exact measureStep_resDen_pos _
    · exact measureStep_resDen_pos _

theorem resDen_of_producesNoValue {i : Instr} (hi : ProducesNoValue i) {s : State} (h : 1 ≤ s.resDen.toNat) :
    1 ≤ (ownRule i s).2.resDen.toNat := by
  have hres := congrArg (fun f => f.2.2) (resultFields_ownRule hi s)
  exact le_of_le_of_eq h (congrArg BitVec.toNat hres.symm)

theorem rescalcBody_eq (mv : U16) (s : State) :
    rescalcBody mv s =
      setResult (resistanceOf mv.toNat).1 (resistanceOf mv.toNat).2.1 (resistanceOf mv.toNat).2.2 s := rfl

theorem resDen_ownRule_pos {s : State} (h : 1 ≤ s.resDen.toNat) (i : Instr) : 1 ≤ (ownRule i s).2.resDen.toNat := by
  cases i with
  | init m sh => exact resDen_of_producesNoValue (.inl ⟨m, sh, rfl⟩) h
  | updcfg value mask => exact resDen_of_producesNoValue (.inr (.inl ⟨value, mask, rfl⟩)) h
  | pwrsave enable => exact resDen_of_producesNoValue (.inr (.inr (.inl ⟨enable, rfl⟩))) h
  | reset => exact resDen_of_producesNoValue (.inr (.inr (.inr rfl))) h
  | rdbusv => rw [ownRule, completes_snd, rdbusvBody_eq]; exact show 1 ≤ (1#32).toNat by decide
  | rdshunt => rw [ownRule, completes_snd, rdshuntBody_eq]; exact show 1 ≤ (100#32).toNat by decide
  | rdcur => rw [ownRule, completes_snd, rdcurBody_eq]; exact show 1 ≤ (32768#32).toNat by decide
  | rdpwr => rw [ownRule, completes_snd, rdpwrBody_eq]; exact show 1 ≤ (32768#32).toNat by decide
  | btnsample => rw [ownRule, completes_snd, btnsampleBody_eq]; exact show 1 ≤ (1#32).toNat by decide
  | rescalc mv =>
    rw [ownRule, completes_snd, rescalcBody_eq, setResult_resistanceOf]
    exact dividerResult_den_pos mv.toNat
  | measure => exact measureStep_resDen_pos s
  | cycle => exact cycleBody_resDen_pos h Config.orchWhileEnabled
  | rdreg index =>
    rw [ownRule, rdregBody]
    split
    · exact show 1 ≤ (1#32).toNat by decide
    · exact h

/-! ## Every command and every step keeps the invariants -/

/-- The output follows the gate: only CYCLE writes either, and it writes both (R37 item 6). -/
theorem outputFollowsGate_ownRule {s : State} (h : s.outEn = s.gateEnabled) (i : Instr) :
    (ownRule i s).2.outEn = (ownRule i s).2.gateEnabled := by
  by_cases hc : i = .cycle
  · subst hc
    obtain ⟨hg, ho⟩ := Prod.mk.inj (gateFields_cycleBody h Config.orchWhileEnabled)
    exact ho.trans hg.symm
  · obtain ⟨hg, ho⟩ := Prod.mk.inj (gateFields_ownRule hc s)
    exact ho.trans (h.trans hg.symm)

theorem inv_ownRule {i : Instr} {s : State} (hpass : preamble i s = none) (h : Inv s) : Inv (ownRule i s).2 := by
  obtain ⟨hle, hzero, hmax⟩ := buttonInv_ownRule ⟨h.durationBounded, h.releasedAtZero, h.heldAtMax⟩ i
  obtain ⟨hshadow, hfatal⟩ := shadowInv_ownRule hpass ⟨h.shadowDerived, h.fatalNotInit⟩
  exact ⟨hle, hzero, hmax, hshadow, hfatal, outputFollowsGate_ownRule h.outputFollowsGate i,
    (reservedBits_ownRule i s).trans h.reservedZero, resDen_ownRule_pos h.denominatorPositive i⟩

theorem inv_exec {i : Instr} {s t : State} (h : Inv s) (ht : exec i s = .next t) : Inv t := by
  obtain ⟨c, -, rfl⟩ | ⟨hpass, rfl⟩ := exec_cases ht
  · exact inv_finish h c
  · exact inv_finish (inv_ownRule hpass h) _

/-- Settles O51: an accepted word runs a command or ends as illegal, and both keep the invariants. -/
theorem everyStepKeepsInvariants : Obligations.EveryStepKeepsInvariants := by
  unfold Obligations.EveryStepKeepsInvariants
  intro s t h ht
  obtain ⟨rfl, -⟩ | ⟨p, rest, -, -, ⟨i, -, hexec⟩ | ⟨r, -, hill⟩⟩ := step_cases ht
  · exact h
  · exact inv_exec (inv_accept h p rest) hexec
  · cases hill
    exact inv_finish (inv_accept h p rest) _

/-- Power-on is reset with other agents' moves still to come, of which no invariant speaks. -/
theorem inv_powerOn (inbox : List Presentation) (reads : List (Byte × Byte)) (acks : List Ack) :
    Inv (State.powerOn inbox reads acks) :=
  have h : Inv State.reset := invariantsHoldAtReset
  ⟨h.durationBounded, h.releasedAtZero, h.heldAtMax, h.shadowDerived, h.fatalNotInit, h.outputFollowsGate, h.reservedZero,
    h.denominatorPositive⟩

theorem inv_of_reachable {s : State} (h : Reachable s) : Inv s := by
  induction h with
  | powerOn inbox reads acks => exact inv_powerOn inbox reads acks
  | step _ next ih => exact everyStepKeepsInvariants _ _ ih next

/-- Settles O52: R37 is read off from the invariants, with the calibration value in place of the quotient. -/
theorem invariantsHoldInReachableStates : Obligations.InvariantsHoldInReachableStates := by
  unfold Obligations.InvariantsHoldInReachableStates
  intro s hs
  have h := inv_of_reachable hs
  refine ⟨h.durationBounded, h.releasedAtZero, h.heldAtMax, fun hi => ?_, h.fatalNotInit, h.outputFollowsGate⟩
  obtain ⟨hm, hsh, hcal, hlow, hhigh⟩ := h.shadowDerived hi
  exact ⟨hm, hsh, hcal, le_of_le_of_eq hlow hcal, le_of_eq_of_le hcal.symm hhigh⟩

end Sys2Proof.Machine

/-! Proofs about the history (20_memory.md R63, R69, R70): it only grows, and what a step adds is well framed.

Growing by a well-framed list is reflexive and transitive, so it is shown once for each operation that records events and then
put together along each command's own rule. -/

namespace Sys2Proof.Machine

/-! ## Growing by a well-framed list -/

/-- Well-framed lists one after the other are well framed: a read never reaches across the seam. -/
theorem wellFramed_append {xs ys : List Event} (hx : wellFramed xs = true) (hy : wellFramed ys = true) :
    wellFramed (xs ++ ys) = true := by
  induction xs using wellFramed.induct with
  | case1 => exact hy
  | case2 p q v es ih =>
    simp only [wellFramed, Bool.and_eq_true, beq_iff_eq] at hx
    simp [wellFramed, hx.1, ih hx.2]
  | case3 | case4 | case5 => simp [wellFramed] at hx
  | case6 es ih | case7 es ih => exact ih hx
  | case8 _ _ _ es ih => exact ih hx
  | case9 _ _ es ih => exact ih hx
  | case10 _ _ _ _ es ih => exact ih hx
  | case11 _ es ih => exact ih hx

/-- The history of `t` is that of `s` and a well-framed list. -/
def GrowsFramed (s t : State) : Prop := ∃ es : List Event, t.trace = s.trace ++ es ∧ wellFramed es = true

theorem growsFramed_of_trace_eq {s t : State} (h : t.trace = s.trace) : GrowsFramed s t :=
  ⟨[], by rw [h, List.append_nil], rfl⟩

theorem GrowsFramed.trans {s t u : State} (h : GrowsFramed s t) (h' : GrowsFramed t u) : GrowsFramed s u := by
  obtain ⟨es, ht, hes⟩ := h
  obtain ⟨fs, hu, hfs⟩ := h'
  exact ⟨es ++ fs, by rw [hu, ht, List.append_assoc], wellFramed_append hes hfs⟩

/-! ## The operations that record events -/

theorem growsFramed_busRead (ptr : Byte) (s : State) : GrowsFramed s (busRead ptr s).2 :=
  ⟨readEvents ptr (readAnswer 0 s), by rw [busRead_eq, readEvents], by simp [readEvents, wellFramed]⟩

theorem growsFramed_busWrite (ptr : Byte) (v : U16) (s : State) : GrowsFramed s (busWrite ptr v s).2 :=
  ⟨[.busWr ptr v (ackAnswer 0 s)], rfl, rfl⟩

theorem growsFramed_drivePin (p : Pin) (level : Bool) (s : State) : GrowsFramed s (drivePin p level s) :=
  ⟨[.pin p level], by cases p <;> rfl, rfl⟩

theorem growsFramed_report (kind : ReportKind) (n : Int) (d : Nat) (resetAvg : Bool) (s : State) :
    GrowsFramed s (report kind n d resetAvg s) :=
  ⟨[.report kind (BitVec.ofInt 64 n) (BitVec.ofNat 32 d) resetAvg], rfl, rfl⟩

theorem growsFramed_indicator (c : Color) (s : State) : GrowsFramed s (indicator c s) := ⟨[.indicator c], rfl, rfl⟩

theorem growsFramed_restoreChip (s : State) : GrowsFramed s (restoreChip s) :=
  ⟨restoreEvents s (ackAnswer 0 s) (ackAnswer 1 s), by rw [restoreChip_eq, restoreEvents], rfl⟩

/-- Every turn of the restore loop is reads and restores (R170). -/
theorem growsFramed_readWithRestore (ptr : Byte) (n : Nat) (s : State) : GrowsFramed s (readWithRestore ptr n s).2 := by
  have two_reads (u : State) : GrowsFramed u (busRead Config.ptrCal (busRead ptr u).2).2 :=
    (growsFramed_busRead ptr u).trans (growsFramed_busRead Config.ptrCal _)
  induction n generalizing s with
  | zero =>
    rw [readWithRestore_zero]
    split
    · exact growsFramed_busRead ptr s
    · exact two_reads s
  | succ n ih =>
    rw [readWithRestore_succ]
    split
    · exact growsFramed_busRead ptr s
    · split
      · exact two_reads s
      · exact ((two_reads s).trans (growsFramed_restoreChip _)).trans (ih _)

theorem growsFramed_reportCurrent (resetAvg : Bool) (s : State) : GrowsFramed s (reportCurrent resetAvg s) := by
  have hreport : (reportCurrent resetAvg s).trace =
      (report .current (readCurrentMa s).1 Config.curDiv resetAvg (readCurrentMa s).2).trace := rfl
  rw [readCurrentMa_eq] at hreport
  exact ((growsFramed_readWithRestore Config.ptrCurrent Config.maxRetry s).trans (growsFramed_report _ _ _ _ _)).trans
    (growsFramed_of_trace_eq hreport)

/-- Either mode of the measurement reports after its last read (R236). -/
theorem growsFramed_measureStep (s : State) : GrowsFramed s (measureStep s) := by
  have hread : GrowsFramed s (busRead Config.ptrBus (drivePin .probe false s)).2 :=
    (growsFramed_drivePin .probe false s).trans (growsFramed_busRead Config.ptrBus _)
  rw [measureStep_eq]
  split
  · refine hread.trans ⟨_, by rw [resistanceMode_eq, List.append_assoc, List.append_assoc], ?_⟩
    simp [readEvents, wellFramed]
  · exact hread.trans (growsFramed_report .voltage _ 1 false _)

theorem growsFramed_gateTransition (want : Bool) (s : State) : GrowsFramed s (gateTransition want s) := by
  cases want with
  | false => exact (growsFramed_drivePin .outEn false s).trans (growsFramed_indicator .inactive _)
  | true =>
    exact (((growsFramed_drivePin .probe false s).trans (growsFramed_drivePin .outEn true _)).trans
      (growsFramed_indicator .active _)).trans (growsFramed_reportCurrent true _)

theorem growsFramed_steadyCycle (orch : Bool) (s : State) : GrowsFramed s (steadyCycle orch s) := by
  unfold steadyCycle
  split
  · cases orch with
    | false => exact growsFramed_reportCurrent false s
    | true => exact (growsFramed_reportCurrent false s).trans (growsFramed_measureStep _)
  · exact growsFramed_measureStep s

theorem growsFramed_cycleBody (orch : Bool) (s : State) : GrowsFramed s (cycleBody orch s) := by
  have hbutton : GrowsFramed s (buttonStep s) := growsFramed_of_trace_eq (buttonStep_trace s)
  simp only [cycleBody]
  split
  · exact hbutton.trans (growsFramed_gateTransition _ _)
  · exact hbutton.trans (growsFramed_steadyCycle _ _)

/-- INIT writes the bus once, or not at all (R161). -/
theorem growsFramed_initBody (m sh : U16) (s : State) : GrowsFramed s (initBody m sh s).2 := by
  cases hfit : calibrationFits m sh with
  | false => exact growsFramed_of_trace_eq (by rw [initBody_of_not_fits hfit])
  | true =>
    rw [initBody_of_fits hfit]
    cases ackAnswer 0 s <;> exact ⟨_, rfl, rfl⟩

/-! ## The commands and the step -/

theorem growsFramed_ownRule (i : Instr) (s : State) : GrowsFramed s (ownRule i s).2 := by
  cases i with
  | init m sh => exact growsFramed_initBody m sh s
  | updcfg value mask => exact growsFramed_busWrite Config.ptrConfig _ { s with configWord := _ }
  | rdbusv => exact ⟨_, by rw [ownRule, completes_snd, rdbusvBody_eq], by simp [readEvents, wellFramed]⟩
  | rdshunt => exact growsFramed_busRead Config.ptrShunt s
  | rdcur =>
    rw [ownRule, completes_snd, rdcurBody_eq, ← restoreProtocolCases]
    exact growsFramed_readWithRestore Config.ptrCurrent Config.maxRetry s
  | rdpwr => exact growsFramed_readWithRestore Config.ptrPower Config.maxRetry s
  | pwrsave enable => cases enable <;> exact growsFramed_busWrite Config.ptrConfig _ s
  | reset => exact ⟨_, by rw [ownRule, completes_snd, resetBody_eq], rfl⟩
  | btnsample => exact growsFramed_of_trace_eq (buttonStep_trace s)
  | rescalc mv => exact growsFramed_of_trace_eq rfl
  | measure => exact growsFramed_measureStep s
  | cycle => exact growsFramed_cycleBody Config.orchWhileEnabled s
  | rdreg index =>
    rw [ownRule, rdregBody]
    split <;> exact growsFramed_of_trace_eq rfl

/-- Settles O45: accepting a word and ending a command record nothing, and each command's rule grows the history by a
well-framed list. -/
theorem historyGrowsWellFramed : Obligations.HistoryGrowsWellFramed := by
  unfold Obligations.HistoryGrowsWellFramed
  intro s t ht
  obtain ⟨rfl, -⟩ | ⟨p, rest, -, -, ⟨i, -, hexec⟩ | ⟨r, -, hill⟩⟩ := step_cases ht
  · exact growsFramed_of_trace_eq rfl
  · obtain ⟨c, -, rfl⟩ | ⟨-, rfl⟩ := exec_cases hexec
    · exact growsFramed_of_trace_eq rfl
    · exact growsFramed_ownRule i (accept p rest s)
  · cases hill
    exact growsFramed_of_trace_eq rfl

end Sys2Proof.Machine

/-! Proofs about the acknowledges (20_memory.md R62, R66; 40_sensor_driver.md R120): no command but INIT depends on them.

Two states are alike but for their acknowledges when they agree once these are forgotten. Each operation keeps two such states
alike and reads the same from both, and a command's own rule is put together from its operations. -/

namespace Sys2Proof.Machine

/-! ## States alike but for their acknowledges -/

/-- The two states differ at most in the acknowledges still to come and in those of the history. -/
def SameButAcks (s t : State) : Prop := s.forgetAcks = t.forgetAcks

/-- An operation that commutes with forgetting the acknowledges keeps states alike. -/
theorem SameButAcks.map {s t : State} (h : SameButAcks s t) {f g : State → State}
    (hf : ∀ u, (f u).forgetAcks = g u.forgetAcks) : SameButAcks (f s) (f t) :=
  (hf s).trans ((congrArg g h).trans (hf t).symm)

/-- States alike agree in a field that the acknowledges are no part of. -/
theorem SameButAcks.field {s t : State} (h : SameButAcks s t) {α : Type} (field : State → α)
    (hfield : ∀ u, field u.forgetAcks = field u) : field s = field t :=
  (hfield s).symm.trans ((congrArg field h).trans (hfield t))

theorem SameButAcks.readAnswer {s t : State} (h : SameButAcks s t) (k : Nat) : readAnswer k s = readAnswer k t :=
  h.field (Machine.readAnswer k) fun _ => rfl

/-! ## The operations -/

theorem SameButAcks.record {s t : State} (h : SameButAcks s t) {e e' : Event} (he : e.forgetAck = e'.forgetAck) :
    SameButAcks (record e s) (record e' t) := by
  have hrecord (e : Event) (u : State) : (Machine.record e u).forgetAcks =
      { u.forgetAcks with trace := u.forgetAcks.trace ++ [e.forgetAck] } := by
    simp [Machine.record, State.forgetAcks]
  rw [SameButAcks, hrecord, hrecord, he, h]

theorem SameButAcks.delay {s t : State} (h : SameButAcks s t) (w : Wait) : SameButAcks (delay w s) (delay w t) :=
  h.record rfl

theorem SameButAcks.report {s t : State} (h : SameButAcks s t) (kind : ReportKind) (n : Int) (d : Nat) (resetAvg : Bool) :
    SameButAcks (report kind n d resetAvg s) (report kind n d resetAvg t) :=
  h.record rfl

theorem SameButAcks.indicator {s t : State} (h : SameButAcks s t) (c : Color) :
    SameButAcks (indicator c s) (indicator c t) :=
  h.record rfl

theorem SameButAcks.setResult {s t : State} (h : SameButAcks s t) (kind : ResultKind) (n : Int) (d : Nat) :
    SameButAcks (setResult kind n d s) (setResult kind n d t) :=
  h.map (g := Machine.setResult kind n d) fun _ => rfl

theorem SameButAcks.drivePin {s t : State} (h : SameButAcks s t) (p : Pin) (level : Bool) :
    SameButAcks (drivePin p level s) (drivePin p level t) := by
  cases p with
  | probe =>
    have hset : SameButAcks { s with probe := level } { t with probe := level } :=
      h.map (f := fun u => { u with probe := level }) (g := fun u => { u with probe := level }) fun _ => rfl
    exact hset.record rfl
  | outEn =>
    have hset : SameButAcks { s with outEn := level } { t with outEn := level } :=
      h.map (f := fun u => { u with outEn := level }) (g := fun u => { u with outEn := level }) fun _ => rfl
    exact hset.record rfl

/-- A write's acknowledge is taken and recorded, and nothing else depends on it (R62). -/
theorem SameButAcks.busWrite {s t : State} (h : SameButAcks s t) (ptr : Byte) (v : U16) :
    SameButAcks (busWrite ptr v s).2 (busWrite ptr v t).2 := by
  have htake : SameButAcks (takeAcks 1 s) (takeAcks 1 t) := h.map (g := id) fun _ => rfl
  exact htake.record rfl

theorem SameButAcks.busRead {s t : State} (h : SameButAcks s t) (ptr : Byte) :
    SameButAcks (busRead ptr s).2 (busRead ptr t).2 := by
  have hselected : SameButAcks (Machine.delay .ptrRead (Machine.record (.busSel ptr) s))
      (Machine.delay .ptrRead (Machine.record (.busSel ptr) t)) := (h.record rfl).delay .ptrRead
  have htake := hselected.map (f := takeReads 1) (g := takeReads 1) fun _ => rfl
  have hvalue := hselected.readAnswer 0
  exact htake.record (by rw [hvalue])

theorem SameButAcks.restoreChip {s t : State} (h : SameButAcks s t) : SameButAcks (restoreChip s) (restoreChip t) := by
  have hconfig : s.configWord = t.configWord := h.field State.configWord fun _ => rfl
  have hcal : s.calValue = t.calValue := h.field State.calValue fun _ => rfl
  rw [Machine.restoreChip, Machine.restoreChip, hconfig, hcal]
  exact ((h.busWrite Config.ptrConfig t.configWord).busWrite Config.ptrCal t.calValue).delay .conv

/-- The restore protocol reads the same from both states and leaves them alike (R170). -/
theorem SameButAcks.readWithRestore {s t : State} (h : SameButAcks s t) (ptr : Byte) (n : Nat) :
    (readWithRestore ptr n s).1 = (readWithRestore ptr n t).1 ∧
    SameButAcks (readWithRestore ptr n s).2 (readWithRestore ptr n t).2 := by
  induction n generalizing s t with
  | zero =>
    have hvalue : (Machine.busRead ptr s).1 = (Machine.busRead ptr t).1 := h.readAnswer 0
    rw [readWithRestore_zero, readWithRestore_zero, hvalue]
    split
    · exact ⟨hvalue, h.busRead ptr⟩
    · exact ⟨rfl, (h.busRead ptr).busRead Config.ptrCal⟩
  | succ n ih =>
    have hread := h.busRead ptr
    have hvalue : (Machine.busRead ptr s).1 = (Machine.busRead ptr t).1 := h.readAnswer 0
    have hcal : (Machine.busRead Config.ptrCal (Machine.busRead ptr s).2).1 =
        (Machine.busRead Config.ptrCal (Machine.busRead ptr t).2).1 := hread.readAnswer 0
    rw [readWithRestore_succ, readWithRestore_succ, hvalue, hcal]
    split
    · exact ⟨hvalue, hread⟩
    · split
      · exact ⟨rfl, hread.busRead Config.ptrCal⟩
      · exact ih (hread.busRead Config.ptrCal).restoreChip

theorem SameButAcks.reportCurrent {s t : State} (h : SameButAcks s t) (resetAvg : Bool) :
    SameButAcks (reportCurrent resetAvg s) (reportCurrent resetAvg t) := by
  obtain ⟨hvalue, hread⟩ := h.readWithRestore Config.ptrCurrent Config.maxRetry
  have hmax : s.maxCurrentMa = t.maxCurrentMa := h.field State.maxCurrentMa fun _ => rfl
  simp only [Machine.reportCurrent, readCurrentMa_eq, hvalue, hmax]
  exact (hread.report _ _ _ _).setResult _ _ _

/-- Both modes of the measurement are chosen and reported by what is read (R236). -/
theorem SameButAcks.measureStep {s t : State} (h : SameButAcks s t) : SameButAcks (measureStep s) (measureStep t) := by
  have hvalue := h.readAnswer 0
  have hread := (h.drivePin .probe false).busRead Config.ptrBus
  rw [measureStep_eq, measureStep_eq, hvalue]
  split
  · have hprobe := hread.drivePin .probe true
    simp only [resistanceMode, readBusMv_eq, hprobe.readAnswer 0]
    exact ((hprobe.busRead Config.ptrBus).report _ _ _ _).setResult _ _ _
  · exact (hread.report _ _ _ _).setResult _ _ _

/-- The button step reads the button fields and the input ports alone (R201). -/
theorem SameButAcks.buttonStep {s t : State} (h : SameButAcks s t) : SameButAcks (buttonStep s) (buttonStep t) := by
  refine h.map (g := Machine.buttonStep) fun u => ?_
  by_cases hd : u.pushDuration = 0#16
  · obtain hb | hb := Bool.eq_false_or_eq_true u.btnN
    · rw [buttonStep_of_idle hb hd, buttonStep_of_idle (s := u.forgetAcks) hb hd]
    · rw [buttonStep_of_unlock hb hd, buttonStep_of_unlock (s := u.forgetAcks) hb hd]
      rfl
  · by_cases ht : elapsed u.now u.lastSampleTime = 0#32
    · rw [buttonStep_of_elapsed_zero hd ht, buttonStep_of_elapsed_zero (s := u.forgetAcks) hd ht]
    · rw [buttonStep_of_moved hd ht, buttonStep_of_moved (s := u.forgetAcks) hd ht]
      rfl

/-! ## The cycle (R260) -/

theorem SameButAcks.gateTransition {s t : State} (h : SameButAcks s t) (want : Bool) :
    SameButAcks (gateTransition want s) (gateTransition want t) := by
  have hoff := (h.drivePin .outEn false).indicator .inactive
  have hon := (((h.drivePin .probe false).drivePin .outEn true).indicator .active).reportCurrent true
  cases want with
  | false =>
    exact hoff.map (f := fun u => { u with gateEnabled := false }) (g := fun u => { u with gateEnabled := false }) fun _ => rfl
  | true =>
    exact hon.map (f := fun u => { u with gateEnabled := true }) (g := fun u => { u with gateEnabled := true }) fun _ => rfl

theorem SameButAcks.steadyCycle {s t : State} (h : SameButAcks s t) (orch : Bool) :
    SameButAcks (steadyCycle orch s) (steadyCycle orch t) := by
  have hgate : s.gateEnabled = t.gateEnabled := h.field State.gateEnabled fun _ => rfl
  rw [Machine.steadyCycle, Machine.steadyCycle, hgate]
  split
  · cases orch with
    | false => exact h.reportCurrent false
    | true => exact (h.reportCurrent false).measureStep
  · exact h.measureStep

theorem SameButAcks.cycleBody {s t : State} (h : SameButAcks s t) (orch : Bool) :
    SameButAcks (cycleBody orch s) (cycleBody orch t) := by
  have hbutton := h.buttonStep
  have hnorm := hbutton.field State.normState fun _ => rfl
  have hgate := hbutton.field State.gateEnabled fun _ => rfl
  simp only [Machine.cycleBody, hnorm, hgate]
  split
  · exact hbutton.gateTransition _
  · exact hbutton.steadyCycle orch

/-! ## The commands (R120) -/

theorem SameButAcks.updcfgBody {s t : State} (h : SameButAcks s t) (value mask : U16) :
    SameButAcks (updcfgBody value mask s) (updcfgBody value mask t) := by
  have hconfig : s.configWord = t.configWord := h.field State.configWord fun _ => rfl
  have hset (new : U16) : SameButAcks { s with configWord := new } { t with configWord := new } :=
    h.map (f := fun u => { u with configWord := new }) (g := fun u => { u with configWord := new }) fun _ => rfl
  simp only [Machine.updcfgBody, hconfig]
  exact (hset _).busWrite Config.ptrConfig _

theorem SameButAcks.pwrsaveBody {s t : State} (h : SameButAcks s t) (enable : Bool) :
    SameButAcks (pwrsaveBody enable s) (pwrsaveBody enable t) := by
  have hconfig : s.configWord = t.configWord := h.field State.configWord fun _ => rfl
  rw [Machine.pwrsaveBody, Machine.pwrsaveBody, hconfig]
  split <;> exact h.busWrite Config.ptrConfig _

theorem SameButAcks.btnsampleBody {s t : State} (h : SameButAcks s t) :
    SameButAcks (btnsampleBody s) (btnsampleBody t) := by
  have hnorm := h.buttonStep.field State.normState fun _ => rfl
  simp only [Machine.btnsampleBody, hnorm]
  exact h.buttonStep.setResult _ _ _

theorem hostRegister_forgetAcks (index : Nat) (s : State) : hostRegister index s.forgetAcks = hostRegister index s := by
  unfold hostRegister
  split <;> rfl

theorem SameButAcks.rdregBody {s t : State} (h : SameButAcks s t) (index : U16) :
    (rdregBody index s).1 = (rdregBody index t).1 ∧ SameButAcks (rdregBody index s).2 (rdregBody index t).2 := by
  have hvalue := h.field (hostRegister index.toNat) (hostRegister_forgetAcks index.toNat)
  rw [Machine.rdregBody, Machine.rdregBody, hvalue]
  split
  · exact ⟨rfl, h.setResult _ _ _⟩
  · exact ⟨rfl, h⟩

/-- Every rule but INIT's ends with the same code in both states and leaves them alike. -/
theorem SameButAcks.ownRule {s t : State} (h : SameButAcks s t) {i : Instr} (hi : ∀ m sh, i ≠ .init m sh) :
    (ownRule i s).1 = (ownRule i t).1 ∧ SameButAcks (ownRule i s).2 (ownRule i t).2 := by
  cases i with
  | init m sh => exact absurd rfl (hi m sh)
  | updcfg value mask => exact ⟨rfl, h.updcfgBody value mask⟩
  | rdbusv =>
    refine ⟨rfl, ?_⟩
    simp only [Machine.ownRule, completes_snd, rdbusvBody, readBusMv_eq, h.readAnswer 0]
    exact (h.busRead Config.ptrBus).setResult _ _ _
  | rdshunt =>
    refine ⟨rfl, ?_⟩
    have hvalue : (Machine.busRead Config.ptrShunt s).1 = (Machine.busRead Config.ptrShunt t).1 := h.readAnswer 0
    simp only [Machine.ownRule, completes_snd, rdshuntBody, hvalue]
    exact (h.busRead Config.ptrShunt).setResult _ _ _
  | rdcur =>
    refine ⟨rfl, ?_⟩
    obtain ⟨hvalue, hread⟩ := h.readWithRestore Config.ptrCurrent Config.maxRetry
    have hmax : s.maxCurrentMa = t.maxCurrentMa := h.field State.maxCurrentMa fun _ => rfl
    simp only [Machine.ownRule, completes_snd, rdcurBody, readCurrentMa_eq, hvalue, hmax]
    exact hread.setResult _ _ _
  | rdpwr =>
    refine ⟨rfl, ?_⟩
    obtain ⟨hvalue, hread⟩ := h.readWithRestore Config.ptrPower Config.maxRetry
    have hmax := hread.field State.maxCurrentMa fun _ => rfl
    simp only [Machine.ownRule, completes_snd, rdpwrBody, hvalue, hmax]
    exact hread.setResult _ _ _
  | pwrsave enable => exact ⟨rfl, h.pwrsaveBody enable⟩
  | reset => exact ⟨rfl, (h.busWrite Config.resetPtr Config.resetValue).delay .resetSettle⟩
  | btnsample => exact ⟨rfl, h.btnsampleBody⟩
  | rescalc mv => exact ⟨rfl, h.setResult _ _ _⟩
  | measure => exact ⟨rfl, h.measureStep⟩
  | cycle => exact ⟨rfl, h.cycleBody Config.orchWhileEnabled⟩
  | rdreg index => exact h.rdregBody index

theorem SameButAcks.finish {s t : State} (h : SameButAcks s t) (c : StatusCode) :
    SameButAcks (finish c s) (finish c t) :=
  h.map (g := Machine.finish c) fun _ => rfl

/-- From states alike a command that is no INIT answers states alike: its checks read `STATUS`, and its rule no
acknowledge. -/
theorem SameButAcks.exec {s t : State} (h : SameButAcks s t) {i : Instr} (hi : ∀ m sh, i ≠ .init m sh) :
    ∃ s' t', exec i s = .next s' ∧ exec i t = .next t' ∧ SameButAcks s' t' := by
  have hpreamble : preamble i s = preamble i t := h.field (preamble i) fun _ => rfl
  rw [exec_eq_command, exec_eq_command]
  cases hp : preamble i t with
  | some c =>
    rw [command_stops (hpreamble.trans hp), command_stops hp]
    exact ⟨_, _, rfl, rfl, h.finish c⟩
  | none =>
    obtain ⟨hcode, hrule⟩ := h.ownRule hi
    rw [command_runs (hpreamble.trans hp), command_runs hp, hcode]
    exact ⟨_, _, rfl, rfl, hrule.finish _⟩

/-- Settles O46: a state with its acknowledges replaced is alike but for them, and so are the next states. -/
theorem acknowledgesIgnoredOutsideInit : Obligations.AcknowledgesIgnoredOutsideInit := by
  unfold Obligations.AcknowledgesIgnoredOutsideInit
  intro i s acks n hi
  have hreplaced : SameButAcks { s with acks := acks, ackDraws := n } s := rfl
  obtain ⟨u, t, hu, ht, hsame⟩ := hreplaced.exec hi
  exact ⟨t, u, ht, hu, hsame⟩

end Sys2Proof.Machine
